-- ==== Sys2Proof/Word.lean ====
section
/-! DEFINITION. Word.lean: the byte, the one word the Line Link and the Probe Bus carry (spec 10.2, 11.13). Every other
quantity of the part is a number in an engineering unit (00_scope, Quantities and units) and is a `Nat` or an `Int` here. -/

namespace Sys2Proof

/-- One byte on the Line Link or the Probe Bus. -/
abbrev Byte := BitVec 8

end Sys2Proof
end

