-- ==== Sys2Proof/Config.lean ====
section
/-! DEFINITION. Config.lean: what the manual fixes for the part (sizes, fixed times) and the values it leaves open. -/

namespace Sys2Proof.Config

/-- R1: the Unit Table holds at most 64 unit records. -/
def unitTableSize : Nat := 64
/-- R6: an anomaly list holds at most four kinds. -/
def anomalyListSize : Nat := 4
/-- R26: TAKE_CLOSED returns at most eight records. -/
def takeClosedMost : Nat := 8
/-- R57: a trace ring holds up to 32 entries. -/
def traceRingSize : Nat := 32
/-- R99: the history holds up to 16 charge records. -/
def historySize : Nat := 16
/-- R172: the Sample FIFO never holds more than 4,096 entries. -/
def sampleFifoSize : Nat := 4096
/-- R186: up to four further requests wait in the request queue. -/
def requestQueueSize : Nat := 4
/-- R189: the Notice Queue holds up to 32 notices. -/
def noticeQueueSize : Nat := 32
/-- R184: a payload is at most 1,024 bytes long. -/
def payloadMost : Nat := 1024

/-- 8.1: one tick is 100 µs, so a second is 10,000 ticks. -/
def ticksPerSecond : Nat := 10000
/-- A tenth of a second in ticks. -/
def ticksPerTenth : Nat := 1000
/-- R40: the release time is fixed at 2.0 s. -/
def releaseTicks : Nat := 20000
/-- R184: a gap of more than 5 ms (50 ticks) between two bytes discards the partial frame. -/
def frameGapTicks : Nat := 50
/-- R155: the probe timeout is 2 ms (20 ticks) from the end of the poll. DEDUCED: the poll's 5 bytes of 10 bits at
250,000 bit/s (00_scope, Connections; 11.13) take 200 µs, 2 ticks, so the timeout stands 22 ticks after the poll began. -/
def probeTimeoutTicks : Nat := 22

/-- The ticks that sending `bytes` bytes takes on the Line Link: 10 bits a byte at 115,200 bit/s (00_scope,
Connections), 10,000 ticks a second, rounded up to a whole tick (DEDUCED). -/
def sendTicks (bytes : Nat) : Nat := (bytes * 100000 + 115199) / 115200

/-- The largest unsigned 64-bit value, at which the mass accumulators saturate (R112). -/
def max64 : Nat := 18446744073709551615
/-- The ceiling of a mass reported in 32 bits (R116). -/
def max32 : Nat := 4294967295
/-- The ceiling of a cycle time and of the charge counter (R40, R85). -/
def max16 : Nat := 65535

/-- FREE VALUE. Where several internal events of the part stand ready at one moment the manual gives no order (R56,
R102, R147, R171, R178, R193: "in whichever order they come"): the n-th such choice is `pick n`, of which nothing is known. -/
opaque pick : Nat → Nat

/-- FREE VALUE. The four bytes that carry a last hold rise outside the signed 32-bit range of its field (11.5): the manual
states no result there. -/
opaque wideRise : Int → BitVec 32

/-- FREE VALUE. The elapsed ticks E of a scan whose interval does not fit the 32 bits R151 gives it: the manual states
no result there. -/
opaque wideElapsed : Nat → BitVec 32

/-- FREE VALUE. A scan that carries a presence fall for a station in PIERCING to HOLDING and finds another of its roles LOST
meets both R48 and R49; the manual does not say which of the two the station takes first. At the scan published at moment `n`
the signal loss comes first when this holds. -/
opaque lossBeforePull : Nat → Bool

end Sys2Proof.Config
end

