-- ==== Sys2Proof/Syntax.lean ====
section
/-! DEFINITION. Syntax.lean: the commands of the block, one constructor of `Instr` for each row of spec/opcode_table.json.
A request row carries the frame tag and the payload bytes of the request as received (R186, R195, 11.10); an event row
carries what the event names: a station, a receiver, a byte, a frame, a probe's reply. -/

namespace Sys2Proof

/-- The two gas families; also the two receivers and the two chamber modes (11.4). -/
inductive Family where
  /-- F -/
  | fluorinated
  /-- H -/
  | hydrocarbon
  deriving DecidableEq, Repr

/-- The four degassing stations (spec 2). -/
abbrev StationNo := Fin 4

/-- One command: a step of the part as the table of operations and events lists it. -/
inductive Instr where
  /-- POWER_ON (R194). -/
  | powerOn
  /-- FRAME_RECEIVED (R185). -/
  | frameReceived (kind tag : Byte) (payload : List Byte) (crc : BitVec 16)
  /-- FRAME_GAP_TIMEOUT (R184). -/
  | frameGapTimeout
  /-- TRANSMIT_COMPLETE (R188). -/
  | transmitComplete
  /-- BAD_KIND (R186). -/
  | badKind (kind tag : Byte) (payload : List Byte)
  /-- ADMIT_UNIT (R23), request kind 01h. -/
  | admitUnit (tag : Byte) (payload : List Byte)
  /-- WITHDRAW_UNIT (R24), request kind 02h. -/
  | withdrawUnit (tag : Byte) (payload : List Byte)
  /-- QUERY_UNIT (R25), request kind 03h. -/
  | queryUnit (tag : Byte) (payload : List Byte)
  /-- TAKE_CLOSED (R26), request kind 04h. -/
  | takeClosed (tag : Byte) (payload : List Byte)
  /-- SET_CLASS_ENTRY (R16), request kind 05h. -/
  | setClassEntry (tag : Byte) (payload : List Byte)
  /-- SUSPEND_STATION (R43), request kind 08h. -/
  | suspendStation (tag : Byte) (payload : List Byte)
  /-- RESUME_STATION (R44), request kind 09h. -/
  | resumeStation (tag : Byte) (payload : List Byte)
  /-- ABORT_STATION (R51), request kind 0Ah. -/
  | abortStation (tag : Byte) (payload : List Byte)
  /-- LOCK_STATION (R52), request kind 0Bh. -/
  | lockStation (tag : Byte) (payload : List Byte)
  /-- UNLOCK_STATION (R53), request kind 0Ch. -/
  | unlockStation (tag : Byte) (payload : List Byte)
  /-- RESET_STATION (R54), request kind 0Dh. -/
  | resetStation (tag : Byte) (payload : List Byte)
  /-- SET_STATION_TIMING (R55), request kind 0Eh. -/
  | setStationTiming (tag : Byte) (payload : List Byte)
  /-- READ_TRACE (R58), request kind 0Fh. -/
  | readTrace (tag : Byte) (payload : List Byte)
  /-- BEGIN_SWAP (R66), request kind 10h. -/
  | beginSwap (tag : Byte) (payload : List Byte)
  /-- END_SWAP (R68), request kind 11h. -/
  | endSwap (tag : Byte) (payload : List Byte)
  /-- QUERY_RECEIVER (R70), request kind 12h. -/
  | queryReceiver (tag : Byte) (payload : List Byte)
  /-- SET_FILL_LIMIT (R71), request kind 13h. -/
  | setFillLimit (tag : Byte) (payload : List Byte)
  /-- STAGE_CHAMBER_SETTINGS (R77), request kind 18h. -/
  | stageChamberSettings (tag : Byte) (payload : List Byte)
  /-- START_CHAMBER (R81), request kind 19h. -/
  | startChamber (tag : Byte) (payload : List Byte)
  /-- STOP_CHAMBER (R84), request kind 1Ah. -/
  | stopChamber (tag : Byte) (payload : List Byte)
  /-- SET_CHAMBER_LIMITS (R80), request kind 1Bh. -/
  | setChamberLimits (tag : Byte) (payload : List Byte)
  /-- READ_CHARGE (R100), request kind 1Ch. -/
  | readCharge (tag : Byte) (payload : List Byte)
  /-- QUERY_CHAMBER (R101), request kind 1Dh. -/
  | queryChamber (tag : Byte) (payload : List Byte)
  /-- SET_GAS_ENTRY (R106), request kind 20h. -/
  | setGasEntry (tag : Byte) (payload : List Byte)
  /-- SET_ARITHMETIC_LIMITS (R111), request kind 21h. -/
  | setArithmeticLimits (tag : Byte) (payload : List Byte)
  /-- QUERY_ARITHMETIC (R107), request kind 22h. -/
  | queryArithmetic (tag : Byte) (payload : List Byte)
  /-- READ_SHIFT (R133), request kind 24h. -/
  | readShift (tag : Byte) (payload : List Byte)
  /-- CLOSE_SHIFT (R134), request kind 25h. -/
  | closeShift (tag : Byte) (payload : List Byte)
  /-- SET_PROTECTION_LIMITS (R137), request kind 28h. -/
  | setProtectionLimits (tag : Byte) (payload : List Byte)
  /-- EMERGENCY_TRIP (R144), request kind 29h. -/
  | emergencyTrip (tag : Byte) (payload : List Byte)
  /-- CLEAR_TRIP (R146), request kind 2Ah. -/
  | clearTrip (tag : Byte) (payload : List Byte)
  /-- QUERY_PROTECTION (R148), request kind 2Bh. -/
  | queryProtection (tag : Byte) (payload : List Byte)
  /-- SET_SCAN_DIVISOR (R152), request kind 30h. -/
  | setScanDivisor (tag : Byte) (payload : List Byte)
  /-- SET_SCAN_SLOT (R153), request kind 31h. -/
  | setScanSlot (tag : Byte) (payload : List Byte)
  /-- SCANNER_RESET (R167), request kind 32h. -/
  | scannerReset (tag : Byte) (payload : List Byte)
  /-- BIND_SIGNAL (R163), request kind 33h. -/
  | bindSignal (tag : Byte) (payload : List Byte)
  /-- SET_SIGNAL_LIMITS (R166), request kind 34h. -/
  | setSignalLimits (tag : Byte) (payload : List Byte)
  /-- QUERY_IMAGE (R168), request kind 35h. -/
  | queryImage (tag : Byte) (payload : List Byte)
  /-- STREAM_CONTROL (R173), request kind 38h. -/
  | streamControl (tag : Byte) (payload : List Byte)
  /-- DRAIN_SAMPLES (R177), request kind 39h. -/
  | drainSamples (tag : Byte) (payload : List Byte)
  /-- SET_NOTICE_ENABLES (R190), request kind 3Bh. -/
  | setNoticeEnables (tag : Byte) (payload : List Byte)
  /-- GO_ONLINE (R181), request kind 3Ch. -/
  | goOnline (tag : Byte) (payload : List Byte)
  /-- GO_OFFLINE (R182), request kind 3Dh. -/
  | goOffline (tag : Byte) (payload : List Byte)
  /-- LINE_RESTART (R183), request kind 3Eh. -/
  | lineRestart (tag : Byte) (payload : List Byte)
  /-- QUERY_STATUS (R191), request kind 3Fh. -/
  | queryStatus (tag : Byte) (payload : List Byte)
  /-- SCAN_TICK (R150). -/
  | scanTick
  /-- PROBE_REPLY (R155). -/
  | probeReply (address : Byte) (values : List (BitVec 32)) (crc : BitVec 16)
  /-- PROBE_TIMEOUT (R155). -/
  | probeTimeout
  /-- STATION_SCAN (R37). -/
  | stationScan (i : StationNo)
  /-- PIERCE_TIME_END (R35). -/
  | pierceTimeEnd (i : StationNo)
  /-- EVACUATION_LIMIT_EXPIRY (R38). -/
  | evacuationLimitExpiry (i : StationNo)
  /-- HOLD_TIME_END (R39). -/
  | holdTimeEnd (i : StationNo)
  /-- RELEASE_TIME_END (R40). -/
  | releaseTimeEnd (i : StationNo)
  /-- SUSPEND_LIMIT_EXPIRY (R47). -/
  | suspendLimitExpiry (i : StationNo)
  /-- RECEIVER_SCAN (R63). -/
  | receiverScan (f : Family)
  /-- CHAMBER_SCAN (R87). -/
  | chamberScan
  /-- INERT_TIMEOUT_EXPIRY (R89). -/
  | inertTimeoutExpiry
  /-- VENT_TIMEOUT_EXPIRY (R93). -/
  | ventTimeoutExpiry
  /-- PROTECTION_SCAN (R138). -/
  | protectionScan
  /-- SAMPLE_SCAN_WRITE (R175). -/
  | sampleScanWrite
  /-- FRAME_BYTE_RECEIVED (R184). -/
  | frameByteReceived (b : Byte)
  deriving DecidableEq, Repr

end Sys2Proof
end

