-- ==== Sys2Proof/Decode.lean ====
section
/-! DEFINITION. Decode.lean: the command a received request spells (11.3, R186), and the host's question about table words.
The opcode table gives its rows no bits, so no word spells a command by the table's bits. -/

namespace Sys2Proof

/-- 11.3, R186: the command that a request of this kind, frame tag and payload is. A kind that names no request, 80h and
above included, is a BAD_KIND. -/
def commandOf (kind tag : Byte) (payload : List Byte) : Instr :=
  match kind.toNat with
  | 0x01 => .admitUnit tag payload
  | 0x02 => .withdrawUnit tag payload
  | 0x03 => .queryUnit tag payload
  | 0x04 => .takeClosed tag payload
  | 0x05 => .setClassEntry tag payload
  | 0x08 => .suspendStation tag payload
  | 0x09 => .resumeStation tag payload
  | 0x0A => .abortStation tag payload
  | 0x0B => .lockStation tag payload
  | 0x0C => .unlockStation tag payload
  | 0x0D => .resetStation tag payload
  | 0x0E => .setStationTiming tag payload
  | 0x0F => .readTrace tag payload
  | 0x10 => .beginSwap tag payload
  | 0x11 => .endSwap tag payload
  | 0x12 => .queryReceiver tag payload
  | 0x13 => .setFillLimit tag payload
  | 0x18 => .stageChamberSettings tag payload
  | 0x19 => .startChamber tag payload
  | 0x1A => .stopChamber tag payload
  | 0x1B => .setChamberLimits tag payload
  | 0x1C => .readCharge tag payload
  | 0x1D => .queryChamber tag payload
  | 0x20 => .setGasEntry tag payload
  | 0x21 => .setArithmeticLimits tag payload
  | 0x22 => .queryArithmetic tag payload
  | 0x24 => .readShift tag payload
  | 0x25 => .closeShift tag payload
  | 0x28 => .setProtectionLimits tag payload
  | 0x29 => .emergencyTrip tag payload
  | 0x2A => .clearTrip tag payload
  | 0x2B => .queryProtection tag payload
  | 0x30 => .setScanDivisor tag payload
  | 0x31 => .setScanSlot tag payload
  | 0x32 => .scannerReset tag payload
  | 0x33 => .bindSignal tag payload
  | 0x34 => .setSignalLimits tag payload
  | 0x35 => .queryImage tag payload
  | 0x38 => .streamControl tag payload
  | 0x39 => .drainSamples tag payload
  | 0x3B => .setNoticeEnables tag payload
  | 0x3C => .goOnline tag payload
  | 0x3D => .goOffline tag payload
  | 0x3E => .lineRestart tag payload
  | 0x3F => .queryStatus tag payload
  | _ => .badKind kind tag payload

/-- The kind, frame tag and payload of the request a command takes; none for the commands that are events (11.3). -/
def requestOf (i : Instr) : Option (Byte × Byte × List Byte) :=
  match i with
  | .powerOn => none
  | .frameReceived _ _ _ _ => none
  | .frameGapTimeout => none
  | .transmitComplete => none
  | .badKind kind tag payload => some (kind, tag, payload)
  | .admitUnit tag payload => some (0x01#8, tag, payload)
  | .withdrawUnit tag payload => some (0x02#8, tag, payload)
  | .queryUnit tag payload => some (0x03#8, tag, payload)
  | .takeClosed tag payload => some (0x04#8, tag, payload)
  | .setClassEntry tag payload => some (0x05#8, tag, payload)
  | .suspendStation tag payload => some (0x08#8, tag, payload)
  | .resumeStation tag payload => some (0x09#8, tag, payload)
  | .abortStation tag payload => some (0x0A#8, tag, payload)
  | .lockStation tag payload => some (0x0B#8, tag, payload)
  | .unlockStation tag payload => some (0x0C#8, tag, payload)
  | .resetStation tag payload => some (0x0D#8, tag, payload)
  | .setStationTiming tag payload => some (0x0E#8, tag, payload)
  | .readTrace tag payload => some (0x0F#8, tag, payload)
  | .beginSwap tag payload => some (0x10#8, tag, payload)
  | .endSwap tag payload => some (0x11#8, tag, payload)
  | .queryReceiver tag payload => some (0x12#8, tag, payload)
  | .setFillLimit tag payload => some (0x13#8, tag, payload)
  | .stageChamberSettings tag payload => some (0x18#8, tag, payload)
  | .startChamber tag payload => some (0x19#8, tag, payload)
  | .stopChamber tag payload => some (0x1A#8, tag, payload)
  | .setChamberLimits tag payload => some (0x1B#8, tag, payload)
  | .readCharge tag payload => some (0x1C#8, tag, payload)
  | .queryChamber tag payload => some (0x1D#8, tag, payload)
  | .setGasEntry tag payload => some (0x20#8, tag, payload)
  | .setArithmeticLimits tag payload => some (0x21#8, tag, payload)
  | .queryArithmetic tag payload => some (0x22#8, tag, payload)
  | .readShift tag payload => some (0x24#8, tag, payload)
  | .closeShift tag payload => some (0x25#8, tag, payload)
  | .setProtectionLimits tag payload => some (0x28#8, tag, payload)
  | .emergencyTrip tag payload => some (0x29#8, tag, payload)
  | .clearTrip tag payload => some (0x2A#8, tag, payload)
  | .queryProtection tag payload => some (0x2B#8, tag, payload)
  | .setScanDivisor tag payload => some (0x30#8, tag, payload)
  | .setScanSlot tag payload => some (0x31#8, tag, payload)
  | .scannerReset tag payload => some (0x32#8, tag, payload)
  | .bindSignal tag payload => some (0x33#8, tag, payload)
  | .setSignalLimits tag payload => some (0x34#8, tag, payload)
  | .queryImage tag payload => some (0x35#8, tag, payload)
  | .streamControl tag payload => some (0x38#8, tag, payload)
  | .drainSamples tag payload => some (0x39#8, tag, payload)
  | .setNoticeEnables tag payload => some (0x3B#8, tag, payload)
  | .goOnline tag payload => some (0x3C#8, tag, payload)
  | .goOffline tag payload => some (0x3D#8, tag, payload)
  | .lineRestart tag payload => some (0x3E#8, tag, payload)
  | .queryStatus tag payload => some (0x3F#8, tag, payload)
  | .scanTick => none
  | .probeReply _ _ _ => none
  | .probeTimeout => none
  | .stationScan _ => none
  | .pierceTimeEnd _ => none
  | .evacuationLimitExpiry _ => none
  | .holdTimeEnd _ => none
  | .releaseTimeEnd _ => none
  | .suspendLimitExpiry _ => none
  | .receiverScan _ => none
  | .chamberScan => none
  | .inertTimeoutExpiry => none
  | .ventTimeoutExpiry => none
  | .protectionScan => none
  | .sampleScanWrite => none
  | .frameByteReceived _ => none

/-- R186: does the kind name a request? -/
def namesRequest (kind : Byte) : Bool :=
  match commandOf kind 0 [] with
  | .badKind _ _ _ => false
  | _ => true

/-- The command that the low `nbits` bits of `w` spell by the table's bits. No row of the table gives bits, so none. -/
def decodeTableWord (_nbits _w : Nat) : Option Instr := none

end Sys2Proof
end

