-- ==== Sys2Proof/Machine/State.lean ====
section
/-! DEFINITION. Machine/State.lean: everything the manual gives the part to hold, block by block, as plain data, and the
part right after power-on. Quantities are numbers in the manual's units (00_scope); optional fields are `Option`s. -/

namespace Sys2Proof.Machine

/-! ## The Line Link (spec 10) -/

/-- 10.1: the state of the line as a whole. -/
inductive LineMode where
  | offline
  | running
  | tripped
  deriving DecidableEq, Repr

/-- 10.3.1: the status codes, in code order (11.4). -/
inductive Status where
  | done
  | staged
  | clamped
  | ignored
  | wrongMode
  | wrongState
  | notFound
  | duplicateTag
  | tableFull
  | outOfRange
  | notClear
  | missingBinding
  | notReady
  | badKind
  deriving DecidableEq, Repr

/-- R185: a received request, as it passed the CRC check. -/
structure Request where
  kind : Byte
  tag : Byte
  payload : List Byte
  deriving DecidableEq, Repr

/-- A frame the part sends: a reply or a notice (R187, R189), less its start byte, length and CRC, which follow from it. -/
structure TxFrame where
  kind : Byte
  tag : Byte
  payload : List Byte
  deriving DecidableEq, Repr

/-- R188: the frame being sent, and the ticks its sending has taken so far. -/
structure Sending where
  frame : TxFrame
  elapsed : Nat
  deriving DecidableEq, Repr

/-- R184: the frame receiver waits for a start byte or is inside a frame; inside, it holds the bytes received after the
start byte, oldest first, and the ticks since the latest of them. -/
inductive FrameReceiver where
  | waiting
  | inside (received : List Byte) (gap : Nat)
  deriving DecidableEq, Repr

/-- R192: the five clear-on-read flags. -/
structure ReadFlags where
  noticeLost : Bool
  frameError : Bool
  scanOverrun : Bool
  sampleOverflow : Bool
  sampleUnderflow : Bool
  deriving DecidableEq, Repr

/-! ## Units (spec 1) -/

/-- 1.2: the seven unit states, in code order. -/
inductive UnitState where
  | admitted
  | assigned
  | degassing
  | degassed
  | shredQueued
  | inCharge
  | closed
  deriving DecidableEq, Repr

/-- 1.1.4: the anomaly kinds, in code order (codes from 1). -/
inductive Anomaly where
  | emptyCircuit
  | vacuumNotReached
  | residualRise
  | suspendExpired
  | aborted
  | pulled
  | stationSignalLost
  | chargeTruncated
  | chargeSignalLost
  deriving DecidableEq, Repr

/-- R126: the verdicts, in code order (11.4). -/
inductive Verdict where
  | accepted
  | shortRecovery
  | lowFoamYield
  | unreferenced
  | incomplete
  deriving DecidableEq, Repr

/-- 1.1.2: the degas result. Masses in mg, pressures in mbar, the cycle time in tenths of a second. -/
structure DegasResult where
  recovered : Nat
  finalPressure : Int
  lastRise : Option Int
  reevacuations : Nat
  cycleTime : Nat
  station : StationNo
  deriving DecidableEq, Repr

/-- 1.1: one unit record. -/
structure UnitRecord where
  tag : Nat
  admission : Nat
  cls : Nat
  nameplate : Option Nat
  foamWeight : Option Nat
  state : UnitState
  station : Option StationNo
  degas : Option DegasResult
  charge : Option Nat
  share : Option Nat
  anomalies : List Anomaly
  truncated : Bool
  severe : Bool
  verdict : Option Verdict
  deriving DecidableEq, Repr

/-- A Gas Table index (5.1). -/
abbrev GasIndex := Fin 8

/-- R15: one defined Class Table entry. -/
structure ClassEntry where
  circuitGas : Option GasIndex
  foamGas : Option GasIndex
  defaultFoamWeight : Nat
  threshold : Nat
  minimumYield : Nat
  deriving DecidableEq, Repr

/-- R105: one defined Gas Table entry. The lower flammable limit is present exactly when the gas is flammable. -/
structure GasEntry where
  name : List Byte
  family : Family
  density : Nat
  lfl : Option Nat
  deriving DecidableEq, Repr

/-- The Unit Tracker's state (R1, R3, R15, R18 to R20). -/
structure Tracker where
  units : List UnitRecord
  degasQueue : List Nat
  shredQueue : List Nat
  closedList : List Nat
  admissionCounter : Nat
  classes : Vector (Option ClassEntry) 32
  deriving DecidableEq, Repr

/-! ## Degassing stations (spec 2) -/

/-- 2.2: the ten station states, in code order. -/
inductive StationState where
  | idle
  | assigned
  | piercing
  | evacuating
  | suspended
  | holding
  | releasing
  | unloading
  | faulted
  | locked
  deriving DecidableEq, Repr

/-- R42: the suspension cause set. -/
structure Causes where
  requested : Bool
  receiver : Bool
  trip : Bool
  deriving DecidableEq, Repr

/-- R50: the kinds of fault a station latches. -/
inductive FaultLatch where
  | pulled
  | signalLost
  deriving DecidableEq, Repr

/-- R57: one trace entry. -/
structure TraceEntry where
  cycleTime : Nat
  pressure : Int
  flow : Nat
  deriving DecidableEq, Repr

/-- 2.1: the station record. Timers are in ticks, the accumulator in ng; `cycleStart` is a moment of `State.now`. -/
structure Station where
  state : StationState
  unit : Option Nat
  family : Option Family
  causes : Causes
  latch : Option FaultLatch
  lastSeen : Option Bool
  cycleStart : Nat
  phaseTimer : Nat
  evacElapsed : Nat
  suspElapsed : Nat
  reevacuations : Nat
  latestPressure : Int
  holdStart : Int
  lastRise : Option Int
  accumulator : Nat
  traceCount : Nat
  trace : List TraceEntry
  deriving DecidableEq, Repr

/-- R55: the timing and test levels shared by the stations. -/
structure StationTiming where
  pierceTime : Nat
  emptyThreshold : Nat
  vacuumTarget : Nat
  evacLimit : Nat
  holdTime : Nat
  riseLimit : Nat
  suspendLimit : Nat
  traceInterval : Nat
  deriving DecidableEq, Repr

/-! ## Signals (spec 8) -/

/-- R164: the condition of a role at a published scan. -/
inductive Condition where
  | valid
  | held
  | lost
  | absent
  deriving DecidableEq, Repr

/-- R161: the mark of a cell at a published scan. -/
inductive Mark where
  | fresh
  | heldFromMiss
  | unsettled
  deriving DecidableEq, Repr

/-- The seventeen roles, by their code (11.4). -/
abbrev RoleNo := Fin 17
/-- The twelve scan slots. -/
abbrev SlotNo := Fin 12
/-- The cells of the scan image. -/
abbrev CellNo := Fin 48

/-- R164: a role's condition and the raw value published with it. -/
structure RoleReading where
  condition : Condition
  value : Int
  deriving DecidableEq, Repr

/-- A cell of a published scan: its value and its mark (R160, R161). -/
structure PublishedCell where
  value : Int
  mark : Mark
  deriving DecidableEq, Repr

/-- R160: a published scan: its sequence number, its elapsed ticks E, the moment of its publication (a moment of
`State.now`), the image and the roles' readings. -/
structure Scan where
  sequence : Nat
  elapsed : Nat
  moment : Nat
  cells : Vector PublishedCell 48
  roles : Vector RoleReading 17
  deriving DecidableEq, Repr

/-! ## Recovery receivers (spec 3) -/

/-- 3.1: the current cylinder; delivered in ng. -/
structure Cylinder where
  serial : Nat
  tare : Nat
  delivered : Nat
  deriving DecidableEq, Repr

/-- 3.1: the last closed cylinder; delivered and difference in mg. -/
structure ClosedCylinder where
  serial : Nat
  tare : Nat
  netWeighed : Option Int
  delivered : Nat
  difference : Option Int
  deriving DecidableEq, Repr

/-- R61: a receiver's state; a current cylinder is present in IN_USE and FULL, absent in SWAPPING. -/
inductive ReceiverStanding where
  | inUse (c : Cylinder)
  | full (c : Cylinder)
  | swapping
  deriving DecidableEq, Repr

/-- 3.1, R63: the receiver record, with the weight used and the condition it was read under at the latest published scan
the receiver took (none before it has taken one). -/
structure Receiver where
  standing : ReceiverStanding
  fillLimit : Nat
  lastClosed : Option ClosedCylinder
  weight : Option Int
  weightCondition : Option Condition
  deriving DecidableEq, Repr

/-! ## The shredding chamber (spec 4) -/

/-- 4.2: the chamber settings; `s` and `e` are the window start and window end. -/
structure ChamberSettings where
  mode : Family
  gas : GasIndex
  b : Nat
  x : Nat
  s : Nat
  e : Nat
  k : Nat
  deriving DecidableEq, Repr

/-- R80: the chamber limits. -/
structure ChamberLimits where
  inertPermit : Nat
  inertTimeout : Nat
  ventLevel : Nat
  ventTimeout : Nat
  deriving DecidableEq, Repr

/-- R98: the charge flags. -/
structure ChargeFlags where
  void : Bool
  truncated : Bool
  signalLost : Bool
  highBaseline : Bool
  clampedScans : Bool
  deriving DecidableEq, Repr

/-- 4.1: the phases of a charge, in code order. -/
inductive Phase where
  | load
  | inertWait
  | window
  | tail
  | ventWait
  deriving DecidableEq, Repr

/-- 4.1, R85: the current charge. `vented` says that it entered VENT_WAIT (R95). -/
structure Charge where
  number : Nat
  phase : Phase
  units : List Nat
  index : Nat
  waitElapsed : Nat
  mass : Nat
  residue : Nat
  baselineUsed : Nat
  scansIntegrated : Nat
  heldScans : Nat
  clampedScans : Nat
  flags : ChargeFlags
  tailSum : Nat
  tailCount : Nat
  tailClean : Bool
  vented : Bool
  deriving DecidableEq, Repr

/-- R98: a finished charge record; each unit of the list with its share in mg. -/
structure ChargeRecord where
  number : Nat
  flags : ChargeFlags
  mode : Family
  gas : GasIndex
  period : Nat
  s : Nat
  e : Nat
  baselineUsed : Nat
  scansIntegrated : Nat
  heldScans : Nat
  clampedScans : Nat
  mass : Nat
  residue : Nat
  units : List (Nat × Nat)
  deriving DecidableEq, Repr

/-- R74: the chamber's four states; a current charge is present in CHARGING. -/
inductive ChamberStanding where
  | stopped
  | waiting
  | charging (c : Charge)
  | halted
  deriving DecidableEq, Repr

/-- 4.1: the chamber record. -/
structure Chamber where
  standing : ChamberStanding
  inForce : ChamberSettings
  staged : ChamberSettings
  stagingPending : Bool
  stopPending : Bool
  startPending : Bool
  counter : Nat
  baseline : Nat
  baselineHigh : Bool
  lastMismatch : Option (Nat × Nat)
  limits : ChamberLimits
  history : List ChargeRecord
  deriving DecidableEq, Repr

/-! ## Accounting (spec 6) and protection (spec 7) -/

/-- R130: the Shift Account. -/
structure Shift where
  number : Nat
  verdicts : Vector Nat 5
  refrigerant : Vector Nat 8
  attributed : Vector Nat 8
  unattributed : Vector Nat 8
  abandoned : Nat
  trips : Nat
  charges : Nat
  voidCharges : Nat
  deriving DecidableEq, Repr

/-- R136: the trip cause set. -/
structure TripCauses where
  loadConc : Bool
  oxygenHigh : Bool
  signalLost : Bool
  inertingFailed : Bool
  ventFailed : Bool
  requestedTrip : Bool
  deriving DecidableEq, Repr

/-- R137: the protection settings. -/
structure ProtectionLimits where
  loadTripPercent : Nat
  oxygenTrip : Nat
  clearPercent : Nat
  clearHold : Nat
  deriving DecidableEq, Repr

/-- Flammable Gas Protection's state; `clearHold` is the moment at which the current run of qualifying scans began (R145). -/
structure Protection where
  causes : TripCauses
  limits : ProtectionLimits
  clearHold : Option Nat
  deriving DecidableEq, Repr

/-! ## The Probe Scanner (spec 8) and the Sample Stream (spec 9) -/

/-- 8.2: a slot's standing. -/
inductive SlotStatus where
  | fresh
  | missing
  | failed
  | truncated
  deriving DecidableEq, Repr

/-- R157: the cells a slot's values go to. -/
structure Allocation where
  first : Nat
  granted : Nat
  deriving DecidableEq, Repr

/-- 8.2: a scan slot. -/
structure Slot where
  enabled : Bool
  address : Nat
  firstValue : Nat
  count : Nat
  misses : Nat
  status : SlotStatus
  allocation : Option Allocation
  deriving DecidableEq, Repr

/-- R154, R155: the slot read in progress, with the definition taken when it began and the ticks since its poll began. -/
structure SlotRead where
  slot : SlotNo
  address : Nat
  firstValue : Nat
  count : Nat
  allocation : Option Allocation
  elapsed : Nat
  deriving DecidableEq, Repr

/-- A scan in progress: its E, fixed at its start (R151), and the read it stands at. -/
structure ScanInProgress where
  elapsed : Nat
  read : SlotRead
  deriving DecidableEq, Repr

/-- A cell of the working image: its value and whether this scan refreshed it (R154). -/
structure WorkingCell where
  value : Int
  refreshed : Bool
  deriving DecidableEq, Repr

/-- 8.5: a role's binding and its record. -/
structure RoleRecord where
  binding : Option CellNo
  hasBeenValid : Bool
  lastValid : Int
  holdCount : Nat
  deriving DecidableEq, Repr

/-- The Probe Scanner's state. `sinceStart` counts the ticks since the previous scan start, `markedD` says that the next
scan started carries E = D (R151, R152), `nextSequence` is the number the next published scan carries (R160). -/
structure Scanner where
  divisor : Nat
  countdown : Nat
  sinceStart : Nat
  markedD : Bool
  inProgress : Option ScanInProgress
  slots : Vector Slot 12
  working : Vector WorkingCell 48
  published : Option Scan
  nextSequence : Nat
  settlingRemaining : Nat
  settlingCount : Nat
  holdLimit : Nat
  roles : Vector RoleRecord 17
  deriving DecidableEq, Repr

/-- R160: the consumers of published scans. -/
inductive Consumer where
  | station (i : StationNo)
  | receiver (f : Family)
  | chamber
  | protection
  | sampleStream
  deriving DecidableEq, Repr

/-- 9.1: a sample entry. -/
structure SampleEntry where
  sequence : Nat
  cell : CellNo
  mark : Mark
  value : Int
  deriving DecidableEq, Repr

/-- The Sample Stream's state (9.1, 9.2); bit n of the stream set stands for cell n. -/
structure SampleStream where
  fifo : List SampleEntry
  set : BitVec 48
  enable : Bool
  threshold : Nat
  armed : Bool
  deriving DecidableEq, Repr

/-! ## Notices (10.5, 11.12) and outputs -/

/-- 3.1: a receiver's state by name, as the notices and replies carry it. -/
inductive ReceiverState where
  | inUse
  | full
  | swapping
  deriving DecidableEq, Repr

/-- 10.5: a notice with what it carries (11.12). -/
inductive Notice where
  | unitAssigned (tag : Nat) (station : StationNo)
  | unitClosed (tag admission charge : Nat) (verdict : Verdict) (ratio yield : Option Nat) (share : Nat)
      (recovered : Option Nat) (severe : Bool)
  | stationState (station : StationNo) (state : StationState) (unit : Option Nat) (causes : Causes)
      (latch : Option FaultLatch)
  | strayUnit (station : StationNo) (state : StationState)
  | receiverState (receiver : Family) (state : ReceiverState) (serial delivered : Option Nat) (net : Option Int)
  | chargeBegin (number : Nat) (void : Bool) (mode : Family) (gas : GasIndex) (period s e baseline : Nat)
      (units : List Nat)
  | chargeEnd (number : Nat) (flags : ChargeFlags) (mass units : Nat)
  | settingsApplied (number : Nat) (settings : ChamberSettings) (period : Nat) (clamped : Bool)
  | modeMismatch (tag : Nat) (foam : GasIndex) (mode : Family) (gas : GasIndex)
  | trip (added set : TripCauses) (entry : Bool) (charge : Option Nat)
  | tripCleared (set : TripCauses)
  | probeFailed (slot : SlotNo) (address sequence : Nat)
  | sampleThreshold (sequence held threshold : Nat)
  deriving DecidableEq, Repr

/-- The Link block's state (R180, R184, R186, R188, R189, R192). Bit n of `enables` is the enable of the notice with the
code C0h + n (11.3). `reply` is the reply that is ready and not yet begun; `sending` the frame on the transmit line. -/
structure Link where
  mode : LineMode
  rx : FrameReceiver
  requests : List Request
  reply : Option TxFrame
  notices : List Notice
  enables : BitVec 13
  flags : ReadFlags
  sending : Option Sending
  deriving DecidableEq, Repr

/-- 00_scope, Connections: the actuator outputs. NEEDLE and EVAC for each station (R30), and the chamber's three (R75). -/
structure Pins where
  needle : Vector Bool 4
  evac : Vector Bool 4
  doorPermit : Bool
  shredRun : Bool
  nitrogen : Bool
  deriving DecidableEq, Repr

/-- The part. `pending` is the queue of commands that wait, first in first out; `now` counts the ticks since power-on;
`choices` numbers the free choices of order taken so far; `toTake` holds, oldest first, each published scan that a consumer
has not taken yet (R160). -/
structure State where
  pending : List Instr
  now : Nat
  choices : Nat
  link : Link
  tracker : Tracker
  stations : Vector Station 4
  timing : StationTiming
  receiverF : Receiver
  receiverH : Receiver
  chamber : Chamber
  gases : Vector (Option GasEntry) 8
  deadBand : Nat
  maximumBaseline : Nat
  shift : Shift
  protection : Protection
  scanner : Scanner
  toTake : List (Consumer × Scan)
  sample : SampleStream
  pins : Pins
  deriving DecidableEq, Repr

/-- The part never stops with a fault: the manual names no event that stops it, so no reason exists. -/
inductive Fault where
  deriving DecidableEq, Repr

/-- Why a command is refused. -/
inductive Refusal where
  /-- Raised by `exec` for a command without a meaning; no arm raises it. Safe: the model stops where the part goes on. -/
  | notModelled (mnemonic : String)
  deriving DecidableEq, Repr

/-! ## The values after power-on -/

/-- R42: no suspension cause. -/
def Causes.empty : Causes := ⟨false, false, false⟩
/-- R136: no trip cause. -/
def TripCauses.empty : TripCauses := ⟨false, false, false, false, false, false⟩
/-- R192: all five flags clear. -/
def ReadFlags.clear : ReadFlags := ⟨false, false, false, false, false⟩
/-- R98: no charge flag. -/
def ChargeFlags.none : ChargeFlags := ⟨false, false, false, false, false⟩

/-- R194: the Link after power-on. -/
def Link.reset : Link :=
  { mode := .offline, rx := .waiting, requests := [], reply := none, notices := [], enables := 0x1FFF#13
    flags := .clear, sending := none }

/-- R27: the Unit Tracker after power-on. -/
def Tracker.reset : Tracker :=
  { units := [], degasQueue := [], shredQueue := [], closedList := [], admissionCounter := 1
    classes := Vector.replicate 32 none }

/-- R59: a station after power-on. -/
def Station.reset : Station :=
  { state := .idle, unit := none, family := none, causes := .empty, latch := none, lastSeen := none, cycleStart := 0
    phaseTimer := 0, evacElapsed := 0, suspElapsed := 0, reevacuations := 0, latestPressure := 0, holdStart := 0
    lastRise := none, accumulator := 0, traceCount := 0, trace := [] }

/-- R55: the default station settings. -/
def StationTiming.reset : StationTiming :=
  { pierceTime := 30, emptyThreshold := 1100, vacuumTarget := 30, evacLimit := 600, holdTime := 60, riseLimit := 15
    suspendLimit := 600, traceInterval := 10 }

/-- R72: a receiver after power-on. -/
def Receiver.reset : Receiver :=
  { standing := .swapping, fillLimit := 45000, lastClosed := none, weight := none, weightCondition := none }

/-- 4.2: the default chamber settings. -/
def ChamberSettings.reset : ChamberSettings :=
  { mode := .fluorinated, gas := 0, b := 6000, x := 0, s := 200, e := 5600, k := 4 }

/-- R103: the chamber after power-on, with the default limits of R80. -/
def Chamber.reset : Chamber :=
  { standing := .stopped, inForce := .reset, staged := .reset, stagingPending := false, stopPending := false
    startPending := false, counter := 0, baseline := 0, baselineHigh := false, lastMismatch := none
    limits := { inertPermit := 40, inertTimeout := 120, ventLevel := 200, ventTimeout := 300 }, history := [] }

/-- R105: the sixteen characters of a name, given by the numbers of their codes. -/
def gasName (codes : List Nat) : List Byte := codes.map (BitVec.ofNat 8)

/-- R105: the Gas Table at power-on; each name's first 16 characters, padded with spaces (20h). -/
def gasTableReset : Vector (Option GasEntry) 8 :=
  #v[ -- "trichlorofluorom"
      some ⟨gasName [116, 114, 105, 99, 104, 108, 111, 114, 111, 102, 108, 117, 111, 114, 111, 109], .fluorinated, 5714, none⟩,
      -- "dichlorodifluoro"
      some ⟨gasName [100, 105, 99, 104, 108, 111, 114, 111, 100, 105, 102, 108, 117, 111, 114, 111], .fluorinated, 5029, none⟩,
      -- "1,1,1,2-tetraflu"
      some ⟨gasName [49, 44, 49, 44, 49, 44, 50, 45, 116, 101, 116, 114, 97, 102, 108, 117], .fluorinated, 4244, none⟩,
      -- "1,1-dichloro-1-f"
      some ⟨gasName [49, 44, 49, 45, 100, 105, 99, 104, 108, 111, 114, 111, 45, 49, 45, 102], .fluorinated, 4864, none⟩,
      -- "isobutane       "
      some ⟨gasName [105, 115, 111, 98, 117, 116, 97, 110, 101, 32, 32, 32, 32, 32, 32, 32], .hydrocarbon, 2417, some 18000⟩,
      -- "cyclopentane    "
      some ⟨gasName [99, 121, 99, 108, 111, 112, 101, 110, 116, 97, 110, 101, 32, 32, 32, 32], .hydrocarbon, 2917, some 11000⟩,
      -- "propane         "
      some ⟨gasName [112, 114, 111, 112, 97, 110, 101, 32, 32, 32, 32, 32, 32, 32, 32, 32], .hydrocarbon, 1834, some 21000⟩,
      none ]

/-- R130, R134: a Shift Account that opens shift `number`, every count and total 0. -/
def Shift.opened (number : Nat) : Shift :=
  { number := number, verdicts := Vector.replicate 5 0, refrigerant := Vector.replicate 8 0
    attributed := Vector.replicate 8 0, unattributed := Vector.replicate 8 0, abandoned := 0, trips := 0, charges := 0
    voidCharges := 0 }

/-- R149: Protection after power-on, with the default settings of R137. -/
def Protection.reset : Protection :=
  { causes := .empty, limits := { loadTripPercent := 25, oxygenTrip := 60, clearPercent := 10, clearHold := 30 }
    clearHold := none }

/-- R153: a slot at power-on. -/
def Slot.reset : Slot :=
  { enabled := false, address := 1, firstValue := 0, count := 1, misses := 0, status := .fresh, allocation := none }

/-- R163: a role's record started afresh under a binding. -/
def RoleRecord.afresh (binding : Option CellNo) : RoleRecord :=
  { binding := binding, hasBeenValid := false, lastValid := 0, holdCount := 0 }

/-- R169: the Probe Scanner after power-on. -/
def Scanner.reset : Scanner :=
  { divisor := 1000, countdown := 1000, sinceStart := 0, markedD := true, inProgress := none
    slots := Vector.replicate 12 .reset, working := Vector.replicate 48 ⟨0, false⟩, published := none, nextSequence := 0
    settlingRemaining := 50, settlingCount := 50, holdLimit := 20, roles := Vector.replicate 17 (.afresh none) }

/-- R179: the Sample Stream after power-on. -/
def SampleStream.reset : SampleStream :=
  { fifo := [], set := 0#48, enable := false, threshold := 2048, armed := true }

/-- 00_scope, Connections: every actuator output released. -/
def Pins.released : Pins :=
  { needle := Vector.replicate 4 false, evac := Vector.replicate 4 false, doorPermit := false, shredRun := false
    nitrogen := false }

/-- The part right after power-on (R27, R59, R72, R103, R105, R111, R135, R149, R169, R179, R194). -/
def State.reset : State :=
  { pending := [], now := 0, choices := 0, link := .reset, tracker := .reset, stations := Vector.replicate 4 .reset
    timing := .reset, receiverF := .reset, receiverH := .reset, chamber := .reset, gases := gasTableReset, deadBand := 5
    maximumBaseline := 500, shift := .opened 1, protection := .reset, scanner := .reset, toTake := []
    sample := .reset, pins := .released }

/-! ## Reading and replacing one record of many -/

/-- The station with a number. -/
def State.station (s : State) (i : StationNo) : Station := s.stations[i]

/-- The state with one station's record replaced. -/
def State.setStation (s : State) (i : StationNo) (st : Station) : State :=
  { s with stations := s.stations.set i st }

/-- The receiver of a family. -/
def State.receiver (s : State) (f : Family) : Receiver :=
  match f with
  | .fluorinated => s.receiverF
  | .hydrocarbon => s.receiverH

/-- The state with one receiver's record replaced. -/
def State.setReceiver (s : State) (f : Family) (r : Receiver) : State :=
  match f with
  | .fluorinated => { s with receiverF := r }
  | .hydrocarbon => { s with receiverH := r }

/-- The state with the Link block's state replaced. -/
def State.setLink (s : State) (l : Link) : State := { s with link := l }
/-- The state with the Unit Tracker's state replaced. -/
def State.setTracker (s : State) (t : Tracker) : State := { s with tracker := t }
/-- The state with the chamber's state replaced. -/
def State.setChamber (s : State) (c : Chamber) : State := { s with chamber := c }
/-- The state with the Shift Account replaced. -/
def State.setShift (s : State) (a : Shift) : State := { s with shift := a }
/-- The state with Protection's state replaced. -/
def State.setProtection (s : State) (p : Protection) : State := { s with protection := p }
/-- The state with the Probe Scanner's state replaced. -/
def State.setScanner (s : State) (c : Scanner) : State := { s with scanner := c }
/-- The state with the Sample Stream's state replaced. -/
def State.setSample (s : State) (m : SampleStream) : State := { s with sample := m }

end Sys2Proof.Machine
end

