-- ==== Sys2Proof/Machine/Flags.lean ====
section
/-! DEFINITION. Machine/Flags.lean: the sets and flags the part keeps: the clear-on-read flags (R192), the suspension
causes (R42), the trip causes (R136) and the charge flags (R98). -/

namespace Sys2Proof.Machine

/-- R192: the five clear-on-read flags, by name. -/
inductive ReadFlag where
  | noticeLost
  | frameError
  | scanOverrun
  | sampleOverflow
  | sampleUnderflow
  deriving DecidableEq, Repr

/-- R192: a flag set; setting a flag that is set leaves it set. -/
def ReadFlags.set (fl : ReadFlags) (x : ReadFlag) : ReadFlags :=
  match x with
  | .noticeLost => { fl with noticeLost := true }
  | .frameError => { fl with frameError := true }
  | .scanOverrun => { fl with scanOverrun := true }
  | .sampleOverflow => { fl with sampleOverflow := true }
  | .sampleUnderflow => { fl with sampleUnderflow := true }

/-- R192: the part with a clear-on-read flag set. -/
def State.setFlag (x : ReadFlag) (s : State) : State :=
  s.setLink { s.link with flags := s.link.flags.set x }

/-- R42: the union of two cause sets. -/
def Causes.union (a b : Causes) : Causes :=
  ⟨a.requested || b.requested, a.receiver || b.receiver, a.trip || b.trip⟩

/-- R42: the causes of one set less those of another. -/
def Causes.without (a b : Causes) : Causes :=
  ⟨a.requested && !b.requested, a.receiver && !b.receiver, a.trip && !b.trip⟩

/-- R42: is the cause set empty? -/
def Causes.isEmpty (a : Causes) : Bool := a = .empty

/-- R43: the cause the host holds. -/
def Causes.ofRequested : Causes := ⟨true, false, false⟩
/-- R45: the cause a receiver holds. -/
def Causes.ofReceiver : Causes := ⟨false, true, false⟩
/-- R46: the cause Protection holds. -/
def Causes.ofTrip : Causes := ⟨false, false, true⟩

/-- R136: the union of two trip cause sets. -/
def TripCauses.union (a b : TripCauses) : TripCauses :=
  ⟨a.loadConc || b.loadConc, a.oxygenHigh || b.oxygenHigh, a.signalLost || b.signalLost,
    a.inertingFailed || b.inertingFailed, a.ventFailed || b.ventFailed, a.requestedTrip || b.requestedTrip⟩

/-- R143: the trip causes of one set that another does not hold. -/
def TripCauses.without (a b : TripCauses) : TripCauses :=
  ⟨a.loadConc && !b.loadConc, a.oxygenHigh && !b.oxygenHigh, a.signalLost && !b.signalLost,
    a.inertingFailed && !b.inertingFailed, a.ventFailed && !b.ventFailed, a.requestedTrip && !b.requestedTrip⟩

/-- R136: is the trip cause set empty? -/
def TripCauses.isEmpty (a : TripCauses) : Bool := a = .empty

/-- R141: the cause SIGNAL_LOST alone. -/
def TripCauses.ofSignalLost : TripCauses := { TripCauses.empty with signalLost := true }
/-- R89: the cause INERTING_FAILED alone. -/
def TripCauses.ofInertingFailed : TripCauses := { TripCauses.empty with inertingFailed := true }
/-- R93: the cause VENT_FAILED alone. -/
def TripCauses.ofVentFailed : TripCauses := { TripCauses.empty with ventFailed := true }
/-- R144: the cause REQUESTED_TRIP alone. -/
def TripCauses.ofRequested : TripCauses := { TripCauses.empty with requestedTrip := true }

end Sys2Proof.Machine
end

