-- ==== Sys2Proof/Machine/Bytes.lean ====
section
/-! DEFINITION. Machine/Bytes.lean: the byte order of multi-byte fields (00_scope, Frames; 11.2) and the CRC-16 of R185. -/

namespace Sys2Proof.Machine

/-- The low `width` bytes of `n`, little-endian. -/
def leBytes (width n : Nat) : List Byte :=
  match width with
  | 0 => []
  | w + 1 => BitVec.ofNat 8 n :: leBytes w (n / 256)

/-- The value of little-endian bytes. -/
def leValue (bytes : List Byte) : Nat :=
  match bytes with
  | [] => 0
  | b :: rest => b.toNat + 256 * leValue rest

/-- The low `width` bytes of a signed value in two's complement, little-endian. -/
def signedBytes (width : Nat) (i : Int) : List Byte :=
  leBytes width (i % (256 ^ width : Nat)).toNat

/-- R195, indicators: 00h means no, 01h means yes. -/
def indicator (b : Bool) : List Byte := [if b then 0x01#8 else 0x00#8]

/-- R195, optional fields: the presence byte, then the value bytes, zeros when the field is absent. -/
def optional (width : Nat) (o : Option Nat) : List Byte :=
  match o with
  | none => 0x00#8 :: leBytes width 0
  | some n => 0x01#8 :: leBytes width n

/-- R195: an optional signed field. -/
def optionalSigned (width : Nat) (o : Option Int) : List Byte :=
  match o with
  | none => 0x00#8 :: leBytes width 0
  | some i => 0x01#8 :: signedBytes width i

/-- R195, sets and indicators in one byte: bit n is the n-th of the list. -/
def maskOf (bits : List Bool) : Nat :=
  match bits with
  | [] => 0
  | b :: rest => (if b then 1 else 0) + 2 * maskOf rest

/-- R185: one step of the CRC register, most significant bit first, with the polynomial 1021h. -/
def crcBit (r : BitVec 16) : BitVec 16 :=
  if r.msb then (r <<< 1) ^^^ 0x1021#16 else r <<< 1

/-- R185: one byte entering the CRC register. -/
def crcByte (r : BitVec 16) (b : Byte) : BitVec 16 :=
  let r := r ^^^ (b.setWidth 16 <<< 8)
  crcBit (crcBit (crcBit (crcBit (crcBit (crcBit (crcBit (crcBit r)))))))

/-- R185: the CRC-16 of a run of bytes; the register starts at FFFFh. -/
def crc16 (bytes : List Byte) : BitVec 16 := bytes.foldl crcByte 0xFFFF#16

end Sys2Proof.Machine
end

