-- ==== Sys2Proof/Machine/Layouts.lean ====
section
/-! DEFINITION. Machine/Layouts.lean: the byte layouts of what the part sends (spec 11): code numbers, shared blocks,
records, notices and the frame envelope. -/

namespace Sys2Proof.Machine

/-! ## Codes (11.4): the first value has code 0, the later ones follow in order -/

/-- 11.4: status codes. -/
def Status.code (x : Status) : Nat := x.ctorIdx
/-- 11.4: line mode codes. -/
def LineMode.code (x : LineMode) : Nat := x.ctorIdx
/-- 11.4: unit state codes. -/
def UnitState.code (x : UnitState) : Nat := x.ctorIdx
/-- 11.4: station state codes. -/
def StationState.code (x : StationState) : Nat := x.ctorIdx
/-- 11.4: receiver state codes. -/
def ReceiverState.code (x : ReceiverState) : Nat := x.ctorIdx
/-- 11.4: phase codes. -/
def Phase.code (x : Phase) : Nat := x.ctorIdx
/-- 11.4: family, mode and receiver codes. -/
def familyCode (x : Family) : Nat := x.ctorIdx
/-- 11.4: verdict codes. -/
def Verdict.code (x : Verdict) : Nat := x.ctorIdx
/-- 11.4: anomaly kinds, codes from 1. -/
def Anomaly.code (x : Anomaly) : Nat := x.ctorIdx + 1
/-- 11.4: fault latch codes. -/
def FaultLatch.code (x : FaultLatch) : Nat := x.ctorIdx
/-- 11.4: mark codes. -/
def Mark.code (x : Mark) : Nat := x.ctorIdx
/-- 11.4: signal condition codes. -/
def Condition.code (x : Condition) : Nat := x.ctorIdx
/-- 11.4: slot status codes. -/
def SlotStatus.code (x : SlotStatus) : Nat := x.ctorIdx
/-- 11.4: chamber state codes. -/
def ChamberStanding.code (x : ChamberStanding) : Nat := x.ctorIdx

/-- 11.4: the suspension cause set's bits. -/
def Causes.mask (c : Causes) : Nat := maskOf [c.requested, c.receiver, c.trip]
/-- 11.4: the trip cause set's bits. -/
def TripCauses.mask (c : TripCauses) : Nat :=
  maskOf [c.loadConc, c.oxygenHigh, c.signalLost, c.inertingFailed, c.ventFailed, c.requestedTrip]
/-- 11.4: the charge flags' bits. -/
def ChargeFlags.mask (c : ChargeFlags) : Nat :=
  maskOf [c.void, c.truncated, c.signalLost, c.highBaseline, c.clampedScans]
/-- 11.4: the clear-on-read flags' bits. -/
def ReadFlags.mask (c : ReadFlags) : Nat :=
  maskOf [c.noticeLost, c.frameError, c.scanOverrun, c.sampleOverflow, c.sampleUnderflow]

/-! ## Records (11.5 to 11.7) -/

/-- 11.5, offset 25: the last hold rise in four signed bytes; outside their range the bytes are a free value. -/
def riseBytes (rise : Option Int) : List Byte :=
  match rise with
  | none => 0x00#8 :: leBytes 4 0
  | some i =>
    if -2147483648 ≤ i ∧ i ≤ 2147483647 then 0x01#8 :: signedBytes 4 i
    else 0x01#8 :: leBytes 4 (Config.wideRise i).toNat

/-- 11.5, offsets 16 to 33: the degas result; zeros when it is absent. -/
def degasBytes (o : Option DegasResult) : List Byte :=
  match o with
  | none => List.replicate 18 0x00#8
  | some d =>
    0x01#8 :: (leBytes 4 d.recovered ++ signedBytes 4 d.finalPressure ++ riseBytes d.lastRise ++ leBytes 1 d.reevacuations
      ++ leBytes 2 d.cycleTime ++ leBytes 1 d.station.val)

/-- 11.5: a list in a record with a fixed number of places, each `width` bytes, zeros beyond its entries. -/
def places (width count : Nat) (values : List Nat) : List Byte :=
  match count with
  | 0 => []
  | n + 1 =>
    match values with
    | [] => leBytes width 0 ++ places width n []
    | v :: rest => leBytes width v ++ places width n rest

/-- 11.5: the unit record, 50 bytes. -/
def UnitRecord.bytes (u : UnitRecord) : List Byte :=
  leBytes 4 u.tag ++ leBytes 2 u.admission ++ leBytes 1 u.cls ++ leBytes 1 u.state.code
    ++ optional 2 u.nameplate ++ optional 2 u.foamWeight ++ optional 1 (u.station.map (·.val))
    ++ degasBytes u.degas ++ optional 2 u.charge ++ optional 4 u.share
    ++ leBytes 1 u.anomalies.length ++ places 1 4 (u.anomalies.map Anomaly.code)
    ++ leBytes 1 (maskOf [u.truncated, u.severe]) ++ optional 1 (u.verdict.map Verdict.code)

/-- 11.6: the charge record, 104 bytes. -/
def ChargeRecord.bytes (r : ChargeRecord) : List Byte :=
  leBytes 2 r.number ++ leBytes 1 r.flags.mask ++ leBytes 1 (familyCode r.mode) ++ leBytes 1 r.gas.val
    ++ leBytes 4 r.period ++ leBytes 4 r.s ++ leBytes 4 r.e ++ leBytes 2 r.baselineUsed
    ++ leBytes 4 r.scansIntegrated ++ leBytes 4 r.heldScans ++ leBytes 4 r.clampedScans ++ leBytes 4 r.mass
    ++ leBytes 4 r.residue ++ leBytes 1 r.units.length ++ places 4 16 (r.units.flatMap fun u => [u.1, u.2])

/-- 11.7: a sample entry, 8 bytes. -/
def SampleEntry.bytes (x : SampleEntry) : List Byte :=
  leBytes 2 x.sequence ++ leBytes 1 x.cell.val ++ leBytes 1 x.mark.code ++ signedBytes 4 x.value

/-- 11.7: a trace entry with its index, 9 bytes. -/
def traceBytes (index : Nat) (x : TraceEntry) : List Byte :=
  leBytes 1 index ++ leBytes 2 x.cycleTime ++ signedBytes 4 x.pressure ++ leBytes 2 x.flow

/-! ## Shared blocks (11.9) -/

/-- 11.9: the chamber settings block, 14 bytes. -/
def ChamberSettings.bytes (c : ChamberSettings) : List Byte :=
  leBytes 1 (familyCode c.mode) ++ leBytes 1 c.gas.val ++ leBytes 2 c.b ++ leBytes 1 c.x ++ leBytes 4 c.s
    ++ leBytes 4 c.e ++ leBytes 1 c.k

/-- 11.9: the class entry block, 15 bytes. -/
def classEntryBytes (o : Option ClassEntry) : List Byte :=
  match o with
  | none => List.replicate 15 0x00#8
  | some c =>
    0x01#8 :: (optional 1 (c.circuitGas.map (·.val)) ++ optional 1 (c.foamGas.map (·.val))
      ++ leBytes 2 c.defaultFoamWeight ++ optional 2 (some c.threshold) ++ optional 4 (some c.minimumYield))

/-- 11.9: the gas entry block, 24 bytes. -/
def gasEntryBytes (o : Option GasEntry) : List Byte :=
  match o with
  | none => List.replicate 24 0x00#8
  | some g =>
    0x01#8 :: (g.name ++ leBytes 1 (familyCode g.family) ++ leBytes 2 g.density ++ indicator g.lfl.isSome
      ++ optional 2 g.lfl)

/-- 11.9: the closed cylinder block, 34 bytes. -/
def ClosedCylinder.bytes (c : ClosedCylinder) : List Byte :=
  leBytes 4 c.serial ++ leBytes 4 c.tare ++ optionalSigned 8 c.netWeighed ++ leBytes 8 c.delivered
    ++ optionalSigned 8 c.difference

/-- 11.9: an allocation, a presence byte, the first cell and the granted count. -/
def allocationBytes (o : Option Allocation) : List Byte :=
  match o with
  | none => [0x00#8, 0x00#8, 0x00#8]
  | some a => 0x01#8 :: (leBytes 1 a.first ++ leBytes 1 a.granted)

/-- 11.9: the slot block, 10 bytes. -/
def slotBytes (n : SlotNo) (x : Slot) : List Byte :=
  leBytes 1 n.val ++ indicator x.enabled ++ leBytes 1 x.address ++ leBytes 1 x.firstValue ++ leBytes 1 x.count
    ++ leBytes 1 x.misses ++ leBytes 1 x.status.code ++ allocationBytes x.allocation

/-- 11.9: the shift account block, 266 bytes. -/
def Shift.bytes (a : Shift) : List Byte :=
  leBytes 2 a.number ++ a.verdicts.toList.flatMap (leBytes 8) ++ a.refrigerant.toList.flatMap (leBytes 8)
    ++ a.attributed.toList.flatMap (leBytes 8) ++ a.unattributed.toList.flatMap (leBytes 8)
    ++ leBytes 8 a.abandoned ++ leBytes 8 a.trips ++ leBytes 8 a.charges ++ leBytes 8 a.voidCharges

/-! ## Notices (11.12) -/

/-- 11.3: a notice's place in the notice table; its code is C0h plus this, and its enable bit is this. -/
def Notice.place (n : Notice) : Nat :=
  match n with
  | .unitAssigned .. => 0
  | .unitClosed .. => 1
  | .stationState .. => 2
  | .strayUnit .. => 3
  | .receiverState .. => 4
  | .chargeBegin .. => 5
  | .chargeEnd .. => 6
  | .settingsApplied .. => 7
  | .modeMismatch .. => 8
  | .trip .. => 9
  | .tripCleared .. => 10
  | .probeFailed .. => 11
  | .sampleThreshold .. => 12

/-- 11.12: a notice's payload. -/
def Notice.bytes (n : Notice) : List Byte :=
  match n with
  | .unitAssigned tag station => leBytes 4 tag ++ leBytes 1 station.val
  | .unitClosed tag admission charge verdict ratio yield share recovered severe =>
    leBytes 4 tag ++ leBytes 2 admission ++ leBytes 2 charge ++ leBytes 1 verdict.code ++ optional 2 ratio
      ++ optional 4 yield ++ leBytes 4 share ++ optional 4 recovered ++ indicator severe
  | .stationState station state unit causes latch =>
    leBytes 1 station.val ++ leBytes 1 state.code ++ optional 4 unit ++ leBytes 1 causes.mask
      ++ optional 1 (latch.map FaultLatch.code)
  | .strayUnit station state => leBytes 1 station.val ++ leBytes 1 state.code
  | .receiverState receiver state serial delivered net =>
    leBytes 1 (familyCode receiver) ++ leBytes 1 state.code ++ optional 4 serial ++ optional 8 delivered
      ++ optionalSigned 8 net
  | .chargeBegin number void mode gas period s e baseline units =>
    leBytes 2 number ++ indicator void ++ leBytes 1 (familyCode mode) ++ leBytes 1 gas.val ++ leBytes 4 period
      ++ leBytes 4 s ++ leBytes 4 e ++ leBytes 2 baseline ++ leBytes 1 units.length ++ places 4 8 units
  | .chargeEnd number flags mass units =>
    leBytes 2 number ++ leBytes 1 flags.mask ++ leBytes 4 mass ++ leBytes 1 units
  | .settingsApplied number settings period clamped =>
    leBytes 2 number ++ settings.bytes ++ leBytes 4 period ++ indicator clamped
  | .modeMismatch tag foam mode gas =>
    leBytes 4 tag ++ leBytes 1 foam.val ++ leBytes 1 (familyCode mode) ++ leBytes 1 gas.val
  | .trip added set entry charge =>
    leBytes 1 added.mask ++ leBytes 1 set.mask ++ indicator entry ++ optional 2 charge
  | .tripCleared set => leBytes 1 set.mask
  | .probeFailed slot address sequence => leBytes 1 slot.val ++ leBytes 1 address ++ leBytes 2 sequence
  | .sampleThreshold sequence held threshold => leBytes 2 sequence ++ leBytes 2 held ++ leBytes 2 threshold

/-- R189: the frame of a notice: its kind (C0h plus its place), the tag 0 and its payload. -/
def Notice.frame (n : Notice) : TxFrame :=
  { kind := BitVec.ofNat 8 (0xC0 + n.place), tag := 0x00#8, payload := n.bytes }

/-! ## The frame envelope (11.1) -/

/-- 11.1, R185: the bytes the CRC covers, from the first length byte to the last payload byte. -/
def covered (kind tag : Byte) (payload : List Byte) : List Byte :=
  leBytes 2 payload.length ++ kind :: tag :: payload

/-- 11.1: a whole frame, CRC last and low byte first. -/
def envelope (kind tag : Byte) (payload : List Byte) (crc : BitVec 16) : List Byte :=
  0xA5#8 :: (covered kind tag payload ++ leBytes 2 crc.toNat)

/-- R185, R187: the bytes of a frame the part sends. -/
def TxFrame.bytes (t : TxFrame) : List Byte :=
  envelope t.kind t.tag t.payload (crc16 (covered t.kind t.tag t.payload))

/-- 11.13: the poll the scanner sends to begin a slot read. -/
def SlotRead.poll (r : SlotRead) : List Byte :=
  let head := leBytes 1 r.address ++ leBytes 1 r.firstValue ++ leBytes 1 r.count
  head ++ leBytes 2 (crc16 head).toNat

/-- 11.13, R155: the bytes a probe's reply has its CRC over. -/
def probeReplyCovered (address : Byte) (values : List (BitVec 32)) : List Byte :=
  address :: (leBytes 1 values.length ++ values.flatMap fun v => leBytes 4 v.toNat)

end Sys2Proof.Machine
end

