-- ==== Sys2Proof/Machine/Ops.lean ====
section
/-! DEFINITION. Machine/Ops.lean: the operations every command shares: raising a notice, taking a request and answering it,
what settles at the end of a command (outputs and transmit line), the passage of time, and taking a published scan. -/

namespace Sys2Proof.Machine

/-- What a command answers. -/
abbrev Answer := Host.Outcome State Fault Refusal

/-! ## Notices (R189) -/

/-- R189: is the notice's kind enabled? -/
def Link.enabled (l : Link) (n : Notice) : Bool := l.enables.getLsbD n.place

/-- R189: a block raises a notice: discarded if its kind is disabled, appended if there is room, else dropped with
NOTICE_LOST set. -/
def State.raise (n : Notice) (s : State) : State :=
  if s.link.enabled n then
    if s.link.notices.length < Config.noticeQueueSize then
      s.setLink { s.link with notices := s.link.notices ++ [n] }
    else s.setFlag .noticeLost
  else s

/-! ## What settles at the end of a command -/

/-- R30: is NEEDLE advanced in a station state? -/
def StationState.needle (x : StationState) : Bool :=
  match x with
  | .piercing | .evacuating | .suspended | .holding => true
  | _ => false

/-- R30: is the EVAC valve open in a station state? -/
def StationState.evac (x : StationState) : Bool :=
  match x with
  | .evacuating => true
  | _ => false

/-- R75: DOOR_PERMIT is on in the LOAD of a charge that is not void. -/
def ChamberStanding.door (x : ChamberStanding) : Bool :=
  match x with
  | .charging c => c.phase = .load && !c.flags.void
  | _ => false

/-- R75: SHRED_RUN is on in the WINDOW of a charge that is not void. -/
def ChamberStanding.shred (x : ChamberStanding) : Bool :=
  match x with
  | .charging c => c.phase = .window && !c.flags.void
  | _ => false

/-- R75: NITROGEN is open in INERT_WAIT, in the WINDOW of an H-mode charge and in HALTED. -/
def ChamberStanding.nitrogen (mode : Family) (x : ChamberStanding) : Bool :=
  match x with
  | .charging c => c.phase = .inertWait || (c.phase = .window && mode = .hydrocarbon)
  | .halted => true
  | _ => false

/-- R30, R75: the outputs that the states of the stations and the chamber call for. -/
def State.driven (s : State) : Pins :=
  { needle := Vector.ofFn fun i : StationNo => (s.station i).state.needle
    evac := Vector.ofFn fun i : StationNo => (s.station i).state.evac
    doorPermit := s.chamber.standing.door
    shredRun := s.chamber.standing.shred
    nitrogen := s.chamber.standing.nitrogen s.chamber.inForce.mode }

/-- R188: the Link block's choice of the next frame when the transmit line is free: a reply that is ready first, else the
oldest notice, which leaves the Notice Queue. -/
def Link.arbitrate (l : Link) : Link :=
  match l.sending with
  | some _ => l
  | none =>
    match l.reply with
    | some r => { l with sending := some ⟨r, 0⟩, reply := none }
    | none =>
      match l.notices with
      | [] => l
      | n :: rest => { l with sending := some ⟨n.frame, 0⟩, notices := rest }

/-- The end of every command: the outputs stand as the states call for (R30, R75) and the transmit line is given its next
frame if it is free (R188). -/
def State.settle (s : State) : State :=
  { s with pins := s.driven, link := s.link.arbitrate }

/-! ## The stations and the consumers of published scans -/

/-- The stations in number order. -/
def allStations : List StationNo := [0, 1, 2, 3]

/-- R160: the consumers of published scans. -/
def allConsumers : List Consumer :=
  [.station 0, .station 1, .station 2, .station 3, .receiver .fluorinated, .receiver .hydrocarbon, .chamber, .protection,
    .sampleStream]

/-! ## Requests and replies (R186, R187) -/

/-- R187: a reply, its status and the fields after it. -/
structure Reply where
  status : Status
  body : List Byte
  deriving DecidableEq, Repr

/-- R187: a reply that carries its status alone. -/
def Reply.bare (st : Status) : Reply := ⟨st, []⟩

/-- R187: the frame that answers a request: its kind plus 80h, its tag, the status and the fields. -/
def Reply.frame (r : Reply) (kind tag : Byte) : TxFrame :=
  { kind := kind + 0x80#8, tag := tag, payload := BitVec.ofNat 8 r.status.code :: r.body }

/-- R187: a request refused or IGNORED changes no state. -/
def State.refuse (st : Status) (s : State) : State × Reply := (s, .bare st)

/-- R186: a received request waits in the request queue; when four wait already it is discarded and FRAME_ERROR is set. -/
def State.receiveRequest (r : Request) (s : State) : State :=
  if s.link.requests.length < Config.requestQueueSize then
    s.setLink { s.link with requests := s.link.requests ++ [r] }
  else s.setFlag .frameError

/-- R160: the published scans that a consumer has still to take. -/
def State.untaken (s : State) (c : Consumer) : Nat := (s.toTake.filter fun e => e.1 = c).length

/-- R160, R183: does a published scan stand that some consumers have taken and others have not? Each scan is handed to every
consumer, so it does exactly when they have not equally many still to take. -/
def State.scanPartlyTaken (s : State) : Bool :=
  allConsumers.any fun c => s.untaken c ≠ s.untaken .chamber

/-- R183: the kind of LINE_RESTART. -/
def restartKind : Byte := 0x3E#8

/-- R183: must the request wait for a scan that is partly taken? DESIGN CHOICE (notes/assumptions/27.md): LINE_RESTART is not
taken between two consumers' taking of one scan; it waits until every consumer has acted on it. -/
def State.heldByScan (s : State) (r : Request) : Bool := r.kind = restartKind && s.scanPartlyTaken

/-- R186: is it this request's turn? The request taken before it has been answered, no other request waits ahead of it, and it
is not held by a scan that is partly taken (R183). DESIGN CHOICE (notes/assumptions/4.md): a request command alike in kind, tag
and payload to the request at the head of the request queue is that waiting request, not a second one received anew (R187). -/
def State.turnOf (s : State) (r : Request) : Bool :=
  s.link.reply.isNone && (s.link.requests.isEmpty || s.link.requests.head? = some r) && !s.heldByScan r

/-- R186: the request taken leaves the request queue, if it waited there. -/
def State.takeFromQueue (s : State) : State :=
  s.setLink { s.link with requests := s.link.requests.tail }

/-- R188: a reply is ready. -/
def State.answerWith (f : TxFrame) (s : State) : State :=
  s.setLink { s.link with reply := some f }

/-- R186, R187: a request is received and handled by its owner in its turn, and its reply made ready. Out of its turn it waits
in the request queue. -/
def takeRequest (r : Request) (handle : State → State × Reply) (s : State) : Answer :=
  if s.turnOf r then
    let (t, reply) := handle s.takeFromQueue
    .next (t.answerWith (reply.frame r.kind r.tag)).settle
  else .next (s.receiveRequest r).settle

/-- R186, R195: a payload that does not match its layout is answered OUT_OF_RANGE before the owner sees the request. -/
def withLayout {α : Type} (o : Option α) (handle : α → State → State × Reply) (s : State) : State × Reply :=
  match o with
  | none => s.refuse .outOfRange
  | some a => handle a s

/-! ## Time (8.1) -/

/-- The passage of `n` ticks at a station: the phase timer runs in PIERCING, HOLDING and RELEASING, the evacuation elapsed
in EVACUATING (R38), the suspension elapsed in SUSPENDED (R47). -/
def Station.elapse (n : Nat) (st : Station) : Station :=
  match st.state with
  | .piercing | .holding | .releasing => { st with phaseTimer := st.phaseTimer + n }
  | .evacuating => { st with evacElapsed := st.evacElapsed + n }
  | .suspended => { st with suspElapsed := st.suspElapsed + n }
  | _ => st

/-- The passage of `n` ticks at the chamber: the elapsed time of a wait phase (R88, R92). -/
def ChamberStanding.elapse (n : Nat) (x : ChamberStanding) : ChamberStanding :=
  match x with
  | .charging c =>
    match c.phase with
    | .inertWait | .ventWait => .charging { c with waitElapsed := c.waitElapsed + n }
    | _ => .charging c
  | y => y

/-- The passage of `n` ticks at the Probe Scanner: the countdown (R150), the ticks since the previous scan start (R151) and the
ticks since the poll in progress began (R155). Ticks never pass beyond a scan tick that is due (`State.atDate`, `State.idle`). -/
def Scanner.elapse (n : Nat) (c : Scanner) : Scanner :=
  { c with
    countdown := c.countdown - n
    sinceStart := c.sinceStart + n
    inProgress := c.inProgress.map fun p => { p with read := { p.read with elapsed := p.read.elapsed + n } } }

/-- The passage of `n` ticks at the frame receiver: the gap after the latest byte (R184). -/
def FrameReceiver.elapse (n : Nat) (x : FrameReceiver) : FrameReceiver :=
  match x with
  | .waiting => .waiting
  | .inside received gap => .inside received (gap + n)

/-- The passage of `n` ticks at the Link block: the gap after the latest byte and the sending of the frame on the transmit
line. -/
def Link.elapse (n : Nat) (l : Link) : Link :=
  { l with
    rx := l.rx.elapse n
    sending := l.sending.map fun x => { x with elapsed := x.elapsed + n } }

/-- The passage of `n` ticks for the whole part. -/
def State.elapse (n : Nat) (s : State) : State :=
  { s with
    now := s.now + n
    stations := Vector.ofFn fun i : StationNo => (s.station i).elapse n
    chamber := { s.chamber with standing := s.chamber.standing.elapse n }
    scanner := s.scanner.elapse n
    link := s.link.elapse n }

/-! ## Published scans (R160) -/

/-- R160: the oldest published scan a consumer has not taken. -/
def scanFor (c : Consumer) (waiting : List (Consumer × Scan)) : Option Scan :=
  match waiting with
  | [] => none
  | (d, x) :: rest => if d = c then some x else scanFor c rest

/-- R160: the scans not yet taken, less the oldest one of a consumer. -/
def withoutScanFor (c : Consumer) (waiting : List (Consumer × Scan)) : List (Consumer × Scan) :=
  match waiting with
  | [] => []
  | (d, x) :: rest => if d = c then rest else (d, x) :: withoutScanFor c rest

/-- R160: a consumer takes the oldest published scan it has not taken, and acts on it. With none to take, nothing
happens. -/
def takeScan (c : Consumer) (act : Scan → State → State) (s : State) : Answer :=
  match scanFor c s.toTake with
  | none => .next s.settle
  | some x => .next (act x { s with toTake := withoutScanFor c s.toTake }).settle

/-! ## Roles (8.5, R108, R109) -/

/-- 11.4: the role codes. -/
def roleStationFlow (i : StationNo) : RoleNo := ⟨i.val, by omega⟩
/-- 11.4: STATION_PRESSURE roles, codes 4 to 7. -/
def roleStationPressure (i : StationNo) : RoleNo := ⟨4 + i.val, by omega⟩
/-- 11.4: STATION_PRESENCE roles, codes 8 to 11. -/
def roleStationPresence (i : StationNo) : RoleNo := ⟨8 + i.val, by omega⟩
/-- 11.4: CHAMBER_FLOW. -/
def roleChamberFlow : RoleNo := 12
/-- 11.4: CHAMBER_CONC. -/
def roleChamberConc : RoleNo := 13
/-- 11.4: CHAMBER_OXYGEN. -/
def roleChamberOxygen : RoleNo := 14
/-- 11.4: RECEIVER_WEIGHT_F and RECEIVER_WEIGHT_H. -/
def roleReceiverWeight (f : Family) : RoleNo :=
  match f with
  | .fluorinated => 15
  | .hydrocarbon => 16

/-- R164: a role's reading at a published scan. -/
def Scan.role (x : Scan) (r : RoleNo) : RoleReading := x.roles[r]

/-- R169: what a role reads as before the first publication: ABSENT unbound, LOST bound. -/
def RoleRecord.unread (r : RoleRecord) : RoleReading :=
  ⟨if r.binding.isNone then .absent else .lost, 0⟩

/-- A role's reading at the latest published scan. -/
def State.latestReading (s : State) (r : RoleNo) : RoleReading :=
  match s.scanner.published with
  | some x => x.role r
  | none => (s.scanner.roles[r]).unread

/-- Is the condition VALID or HELD? -/
def Condition.usable (c : Condition) : Bool := c = .valid || c = .held
/-- Is the condition LOST or ABSENT? -/
def Condition.silent (c : Condition) : Bool := c = .lost || c = .absent

/-- R109: a raw value limited to 0 to `most`. -/
def clampTo (most : Nat) (raw : Int) : Nat := min raw.toNat most

/-- R109: did the clamp change the raw value? -/
def clampChanges (most : Nat) (raw : Int) : Bool := raw < 0 || (most : Int) < raw

/-- R109: the ranges of STATION_FLOW, CHAMBER_FLOW and CHAMBER_CONC. -/
def stationFlowMost : Nat := 20000
/-- R109: CHAMBER_FLOW, in dL/s. -/
def chamberFlowMost : Nat := 30000
/-- R109: CHAMBER_CONC, in ppm. -/
def chamberConcMost : Nat := 60000

/-! ## Sums that saturate -/

/-- R112: an unsigned 64-bit addition that stays at the largest value. -/
def addTo64 (a b : Nat) : Nat := min (a + b) Config.max64

/-- R116: a mass in ng reported in mg, rounded down. -/
def milligrams (ng : Nat) : Nat := ng / 1000000

/-- R116: a mass in ng reported in mg in 32 bits, at its ceiling when it passes it. -/
def milligrams32 (ng : Nat) : Nat := min (milligrams ng) Config.max32

end Sys2Proof.Machine
end

