-- ==== Sys2Proof/Machine/Units.lean ====
section
/-! DEFINITION. Machine/Units.lean: the Unit Tracker's operations on one unit record: finding it, changing it, applying a
report to it (spec 1.1, 1.2, R14). -/

namespace Sys2Proof.Machine

/-- R1: the record held under a tag. -/
def State.findUnit (tag : Nat) (s : State) : Option UnitRecord :=
  s.tracker.units.find? fun u => u.tag = tag

/-- The record held under a tag changed; nothing when none is held (R14). -/
def State.modifyUnit (tag : Nat) (f : UnitRecord → UnitRecord) (s : State) : State :=
  s.setTracker { s.tracker with units := s.tracker.units.map fun u => if u.tag = tag then f u else u }

/-- R1: the record held under a tag freed. -/
def State.freeUnit (tag : Nat) (s : State) : State :=
  s.setTracker { s.tracker with units := s.tracker.units.filter fun u => u.tag ≠ tag }

/-- R15: a class's entry, if it is defined. -/
def State.classEntry (cls : Nat) (s : State) : Option ClassEntry :=
  if h : cls < 32 then s.tracker.classes[cls] else none

/-- R105: a Gas Table entry, if it is defined. -/
def State.gas (g : GasIndex) (s : State) : Option GasEntry := s.gases[g]

/-- R127: the severe anomaly kinds. -/
def Anomaly.severe (a : Anomaly) : Bool :=
  match a with
  | .suspendExpired | .aborted | .pulled | .stationSignalLost | .chargeTruncated | .chargeSignalLost => true
  | .emptyCircuit | .vacuumNotReached | .residualRise => false

/-- R6: an anomaly applied to a record that is not CLOSED. -/
def UnitRecord.report (a : Anomaly) (u : UnitRecord) : UnitRecord :=
  let v :=
    if a ∈ u.anomalies then u
    else if u.anomalies.length < Config.anomalyListSize then { u with anomalies := u.anomalies ++ [a] }
    else { u with truncated := true }
  { v with severe := u.severe || a.severe }

/-- R6: a block reports an anomaly; dropped for a CLOSED record and for a tag the table does not hold. -/
def State.reportAnomaly (tag : Nat) (a : Anomaly) (s : State) : State :=
  s.modifyUnit tag fun u => if u.state = .closed then u else u.report a

/-- A station's report names the unit it holds; a station that holds none reports nothing. -/
def State.reportFrom (unit : Option Nat) (a : Anomaly) (s : State) : State :=
  match unit with
  | none => s
  | some tag => s.reportAnomaly tag a

/-- R8: a station's cycle start moves its unit from ASSIGNED to DEGASSING. -/
def State.reportCycleStart (tag : Nat) (s : State) : State :=
  s.modifyUnit tag fun u => if u.state = .assigned then { u with state := .degassing } else u

/-- R9: the degas result handed over at the end of RELEASING; the record moves from DEGASSING to DEGASSED. -/
def State.handResult (tag : Nat) (d : DegasResult) (s : State) : State :=
  s.modifyUnit tag fun u => if u.state = .degassing then { u with degas := some d, state := .degassed } else u

/-- R15, R105: the family of a class's circuit gas, if it has one and its entry is defined. -/
def State.circuitFamily (cls : Nat) (s : State) : Option Family :=
  match s.classEntry cls with
  | none => none
  | some c =>
    match c.circuitGas with
    | none => none
    | some g => (s.gas g).map (·.family)

/-- R119: a unit's weight in g: its foam weight, or the default of its class when it is absent. -/
def State.weightOf (u : UnitRecord) (s : State) : Nat :=
  match u.foamWeight with
  | some w => w
  | none => ((s.classEntry u.cls).map (·.defaultFoamWeight)).getD 0

end Sys2Proof.Machine
end

