-- ==== Sys2Proof/Machine/Accounting.lean ====
section
/-! DEFINITION. Machine/Accounting.lean: apportionment (R119 to R122), the figures and the verdict of a unit (R124 to R127),
closure and crediting (R13, R128), and READ_SHIFT and CLOSE_SHIFT (R133, R134). -/

namespace Sys2Proof.Machine

/-! ## Apportionment -/

/-- R120: unit (w, i) is ranked ahead by unit (v, j): a larger remainder, or an equal one and loaded earlier. -/
def rankedAhead (mass total : Nat) (x y : Nat × Nat) : Bool :=
  mass * y.1 % total < mass * x.1 % total || (mass * x.1 % total = mass * y.1 % total && x.2 < y.2)

/-- R120: the leftover, the mass less the sum of the floor shares. -/
def leftover (mass : Nat) (weights : List Nat) : Nat :=
  mass - (weights.map fun w => mass * w / weights.sum).sum

/-- R120: the shares when the weights' sum is above 0: each unit's floor share, and 1 mg more for the first L units in the
ranking by remainder. -/
def sharesByWeight (mass : Nat) (weights : List Nat) : List Nat :=
  let order := weights.zipIdx
  order.map fun y =>
    mass * y.1 / weights.sum
      + (if (order.filter fun x => rankedAhead mass weights.sum x y).length < leftover mass weights then 1 else 0)

/-- R121: the shares when every weight is 0. -/
def sharesEqually (mass n : Nat) : List Nat :=
  (List.range n).map fun i => mass / n + (if i < mass % n then 1 else 0)

/-- R119: a charge's mass divided among its units, in load order. -/
def shares (mass : Nat) (weights : List Nat) : List Nat :=
  if weights.sum = 0 then sharesEqually mass weights.length else sharesByWeight mass weights

/-- R119: the weights of a charge's units, in load order. -/
def State.weightsOf (tags : List Nat) (s : State) : List Nat :=
  tags.map fun tag => ((s.findUnit tag).map fun u => s.weightOf u).getD 0

/-! ## Judging a unit -/

/-- R124: the recovery ratio in per-mille, reduced to 1,999 above it. -/
def State.recoveryRatio (u : UnitRecord) (s : State) : Option Nat :=
  match s.classEntry u.cls with
  | none => none
  | some c =>
    match c.circuitGas, u.nameplate, u.degas with
    | some _, some plate, some d => some (min (d.recovered / plate) 1999)
    | _, _, _ => none

/-- R125: the foam yield in mg/kg, at its exact value. -/
def State.foamYield (u : UnitRecord) (s : State) : Option Nat :=
  match s.classEntry u.cls with
  | none => none
  | some c =>
    match c.foamGas, u.share with
    | some _, some share => if s.weightOf u = 0 then none else some (share * 1000 / s.weightOf u)
    | _, _ => none

/-- A figure that is present and below a level. -/
def belowLevel (figure : Option Nat) (level : Nat) : Bool :=
  match figure with
  | none => false
  | some n => n < level

/-- R126: the first test the unit meets gives its verdict. -/
def State.verdictOf (u : UnitRecord) (s : State) : Verdict :=
  match s.classEntry u.cls with
  | none => if u.severe then .incomplete else .accepted
  | some c =>
    if u.severe then .incomplete
    else if belowLevel (s.recoveryRatio u) c.threshold then .shortRecovery
    else if belowLevel (s.foamYield u) c.minimumYield then .lowFoamYield
    else if c.circuitGas.isSome && u.nameplate.isNone then .unreferenced
    else .accepted

/-! ## Closure and crediting -/

/-- A total kept by Gas Table index raised by a mass in mg (R130: Accounting adds exactly). -/
def credit (totals : Vector Nat 8) (g : GasIndex) (mg : Nat) : Vector Nat 8 := totals.set g (totals[g] + mg)

/-- R126: the place of a verdict among the verdict counts. -/
def Verdict.place (v : Verdict) : Fin 5 :=
  match v with
  | .accepted => 0
  | .shortRecovery => 1
  | .lowFoamYield => 2
  | .unreferenced => 3
  | .incomplete => 4

/-- R128, steps 1 to 3: the Shift Account credited for one closed unit. -/
def Shift.creditUnit (circuit : Option GasIndex) (recovered : Nat) (gas : GasIndex) (share : Nat) (v : Verdict)
    (a : Shift) : Shift :=
  { a with
    refrigerant := match circuit with
      | none => a.refrigerant
      | some g => credit a.refrigerant g recovered
    attributed := credit a.attributed gas share
    verdicts := a.verdicts.set v.place (a.verdicts[v.place] + 1) }

/-- R13, steps 1 and 2: the share stored and the chamber's anomalies applied. DESIGN CHOICE (notes/assumptions/28.md): of a charge
that is both truncated and flagged SIGNAL_LOST, CHARGE_TRUNCATED is applied before CHARGE_SIGNAL_LOST. -/
def UnitRecord.atChargeEnd (share : Nat) (flags : ChargeFlags) (u : UnitRecord) : UnitRecord :=
  let u := { u with share := some share }
  let u := if flags.truncated then u.report .chargeTruncated else u
  if flags.signalLost then u.report .chargeSignalLost else u

/-- R13, R128: one unit of an ended charge closed and credited. A tag that names no IN_CHARGE record is dropped (R14). -/
def State.closeUnit (r : ChargeRecord) (entry : Nat × Nat) (s : State) : State :=
  match s.findUnit entry.1 with
  | none => s
  | some u =>
    if u.state = .inCharge then
      let u := u.atChargeEnd entry.2 r.flags
      let v := s.verdictOf u
      let ratio := s.recoveryRatio u
      let yield := (s.foamYield u).map (min · Config.max32)
      let circuit := (s.classEntry u.cls).bind (·.circuitGas)
      let recovered := u.degas.map (·.recovered)
      let s := s.modifyUnit entry.1 fun _ => { u with verdict := some v, state := .closed }
      let s := s.setTracker { s.tracker with closedList := s.tracker.closedList ++ [entry.1] }
      let s := s.setShift (s.shift.creditUnit circuit (recovered.getD 0) r.gas entry.2 v)
      s.raise (.unitClosed u.tag u.admission r.number v ratio yield entry.2 recovered u.severe)
    else s

/-- R13: the units of an ended charge closed one at a time in load order. -/
def State.closeUnits (r : ChargeRecord) (entries : List (Nat × Nat)) (s : State) : State :=
  entries.foldl (fun t x => t.closeUnit r x) s

/-- R123: the charge counts, and a void charge's mass as unattributed foam. -/
def Shift.countCharge (flags : ChargeFlags) (gas : GasIndex) (mass : Nat) (a : Shift) : Shift :=
  if flags.void then
    { a with
      charges := a.charges + 1
      voidCharges := a.voidCharges + 1
      unattributed := credit a.unattributed gas mass }
  else { a with charges := a.charges + 1 }

/-- R119, R123: the unit list of a finished record, each unit with its share; empty for a void charge. -/
def State.apportion (flags : ChargeFlags) (mass : Nat) (tags : List Nat) (s : State) : List (Nat × Nat) :=
  if flags.void then [] else tags.zip (shares mass (s.weightsOf tags))

/-! ## READ_SHIFT and CLOSE_SHIFT -/

/-- R134: the number of the shift after a shift. -/
def nextShiftNumber (n : Nat) : Nat := if n = Config.max16 then 1 else n + 1

/-- R133: READ_SHIFT. -/
def handleReadShift (s : State) : State × Reply := (s, ⟨.done, s.shift.bytes⟩)

/-- R134: CLOSE_SHIFT. -/
def handleCloseShift (s : State) : State × Reply :=
  (s.setShift (.opened (nextShiftNumber s.shift.number)),
    ⟨.done, s.shift.bytes ++ leBytes 2 (nextShiftNumber s.shift.number)⟩)

end Sys2Proof.Machine
end

