-- ==== Sys2Proof/Machine/Operands.lean ====
section
/-! DEFINITION. Machine/Operands.lean: the fields of each request's payload (11.10), read by the rules of R195. A reader
answers none where the payload does not match its layout: another length (R186), a presence byte, an indicator or an
enumeration that names no value, a set with a bit above its last value. -/

namespace Sys2Proof.Machine

/-! ## Single fields -/

/-- An unsigned field of `width` bytes at an offset. -/
def field (payload : List Byte) (offset width : Nat) : Nat := leValue ((payload.drop offset).take width)

/-- R195: an indicator byte; none unless it is 00h or 01h. -/
def indicatorAt (payload : List Byte) (offset : Nat) : Option Bool :=
  match field payload offset 1 with
  | 0 => some false
  | 1 => some true
  | _ => none

/-- R195: an optional field, a presence byte and `width` value bytes, which are not examined when it is absent. -/
def optionalAt (payload : List Byte) (offset width : Nat) : Option (Option Nat) :=
  match indicatorAt payload offset with
  | none => none
  | some false => some none
  | some true => some (some (field payload (offset + 1) width))

/-- 11.4: a family, mode or receiver byte. -/
def familyAt (payload : List Byte) (offset : Nat) : Option Family :=
  match field payload offset 1 with
  | 0 => some .fluorinated
  | 1 => some .hydrocarbon
  | _ => none

/-- A number of one of `n` things, when it names one. -/
def numbered (n k : Nat) : Option (Fin n) := if h : k < n then some ⟨k, h⟩ else none

/-- R186: a payload read only when it has the length its layout requires. -/
def ofLength {α : Type} (n : Nat) (payload : List Byte) (read : Option α) : Option α :=
  if payload.length = n then read else none

/-- R186: a request without parameters has an empty payload. -/
def readNothing (payload : List Byte) : Option Unit := ofLength 0 payload (some ())

/-! ## The requests' fields -/

/-- 01h ADMIT_UNIT. -/
structure AdmitOperands where
  tag : Nat
  cls : Nat
  nameplate : Option Nat
  foamWeight : Option Nat
  deriving DecidableEq, Repr

/-- 01h ADMIT_UNIT, 11 bytes. -/
def readAdmit (p : List Byte) : Option AdmitOperands :=
  ofLength 11 p <|
    match optionalAt p 5 2, optionalAt p 8 2 with
    | some nameplate, some foam => some ⟨field p 0 4, field p 4 1, nameplate, foam⟩
    | _, _ => none

/-- 02h and 03h, WITHDRAW_UNIT and QUERY_UNIT: a unit's tag, 4 bytes. -/
def readUnitTag (p : List Byte) : Option Nat := ofLength 4 p (some (field p 0 4))

/-- A defined class entry as a request carries it, its threshold and minimum yield present or absent. -/
structure ClassOperands where
  circuitGas : Option Nat
  foamGas : Option Nat
  defaultFoamWeight : Nat
  threshold : Option Nat
  minimumYield : Option Nat
  deriving DecidableEq, Repr

/-- 11.9: the class entry block at offset 1; `none` inside is the request to undefine the entry. -/
def readClassBlock (p : List Byte) : Option (Option ClassOperands) :=
  match indicatorAt p 1 with
  | none => none
  | some false => some none
  | some true =>
    match optionalAt p 2 1, optionalAt p 4 1, optionalAt p 8 2, optionalAt p 11 4 with
    | some circuit, some foam, some threshold, some minimum =>
      some (some ⟨circuit, foam, field p 6 2, threshold, minimum⟩)
    | _, _, _, _ => none

/-- 05h SET_CLASS_ENTRY, 16 bytes: the entry number and the class entry block. -/
def readSetClass (p : List Byte) : Option (Nat × Option ClassOperands) :=
  ofLength 16 p ((readClassBlock p).map fun c => (field p 0 1, c))

/-- 08h to 0Dh: a station number, 1 byte. -/
def readStation (p : List Byte) : Option Nat := ofLength 1 p (some (field p 0 1))

/-- 0Eh SET_STATION_TIMING, 15 bytes. -/
def readTiming (p : List Byte) : Option StationTiming :=
  ofLength 15 p <| some
    { pierceTime := field p 0 2, emptyThreshold := field p 2 2, vacuumTarget := field p 4 2, evacLimit := field p 6 2
      holdTime := field p 8 2, riseLimit := field p 10 2, suspendLimit := field p 12 2, traceInterval := field p 14 1 }

/-- 0Fh READ_TRACE, 3 bytes: station, start index, count. -/
def readReadTrace (p : List Byte) : Option (Nat × Nat × Nat) :=
  ofLength 3 p (some (field p 0 1, field p 1 1, field p 2 1))

/-- 10h and 12h, BEGIN_SWAP and QUERY_RECEIVER: a receiver, 1 byte. -/
def readReceiver (p : List Byte) : Option Family := ofLength 1 p (familyAt p 0)

/-- 11h END_SWAP and 13h SET_FILL_LIMIT, 5 bytes: a receiver and a serial or a fill limit. -/
def readReceiverAndNumber (p : List Byte) : Option (Family × Nat) :=
  ofLength 5 p ((familyAt p 0).map fun f => (f, field p 1 4))

/-- 11.9: the chamber settings as a request carries them; the gas kind not yet checked. -/
structure SettingsOperands where
  mode : Family
  gas : Nat
  b : Nat
  x : Nat
  s : Nat
  e : Nat
  k : Nat
  deriving DecidableEq, Repr

/-- 18h STAGE_CHAMBER_SETTINGS, 14 bytes. -/
def readSettings (p : List Byte) : Option SettingsOperands :=
  ofLength 14 p <| (familyAt p 0).map fun mode =>
    ⟨mode, field p 1 1, field p 2 2, field p 4 1, field p 5 4, field p 9 4, field p 13 1⟩

/-- 1Bh SET_CHAMBER_LIMITS, 7 bytes. -/
def readChamberLimits (p : List Byte) : Option ChamberLimits :=
  ofLength 7 p (some ⟨field p 0 1, field p 1 2, field p 3 2, field p 5 2⟩)

/-- 1Ch READ_CHARGE, 2 bytes: a charge number. -/
def readChargeNumber (p : List Byte) : Option Nat := ofLength 2 p (some (field p 0 2))

/-- A defined gas entry as a request carries it. -/
structure GasOperands where
  name : List Byte
  family : Family
  density : Nat
  flammable : Bool
  lfl : Option Nat
  deriving DecidableEq, Repr

/-- 11.9: the gas entry block at offset 1; `none` inside is the request to undefine the entry. -/
def readGasBlock (p : List Byte) : Option (Option GasOperands) :=
  match indicatorAt p 1 with
  | none => none
  | some false => some none
  | some true =>
    match familyAt p 18, indicatorAt p 21, optionalAt p 22 2 with
    | some family, some flammable, some lfl =>
      some (some ⟨(p.drop 2).take 16, family, field p 19 2, flammable, lfl⟩)
    | _, _, _ => none

/-- 20h SET_GAS_ENTRY, 25 bytes: the index and the gas entry block. -/
def readSetGas (p : List Byte) : Option (Nat × Option GasOperands) :=
  ofLength 25 p ((readGasBlock p).map fun g => (field p 0 1, g))

/-- 21h SET_ARITHMETIC_LIMITS, 4 bytes: flow dead band and maximum baseline. -/
def readArithmeticLimits (p : List Byte) : Option (Nat × Nat) := ofLength 4 p (some (field p 0 2, field p 2 2))

/-- 28h SET_PROTECTION_LIMITS, 5 bytes. -/
def readProtectionLimits (p : List Byte) : Option ProtectionLimits :=
  ofLength 5 p (some ⟨field p 0 1, field p 1 1, field p 2 1, field p 3 2⟩)

/-- 30h SET_SCAN_DIVISOR, 4 bytes. -/
def readDivisor (p : List Byte) : Option Nat := ofLength 4 p (some (field p 0 4))

/-- 31h SET_SCAN_SLOT. -/
structure SlotOperands where
  slot : Nat
  enabled : Bool
  address : Nat
  firstValue : Nat
  count : Nat
  deriving DecidableEq, Repr

/-- 31h SET_SCAN_SLOT, 5 bytes. -/
def readSlot (p : List Byte) : Option SlotOperands :=
  ofLength 5 p <| (indicatorAt p 1).map fun enabled =>
    ⟨field p 0 1, enabled, field p 2 1, field p 3 1, field p 4 1⟩

/-- 33h BIND_SIGNAL, 3 bytes: a role (an enumeration) and a cell, absent to unbind. -/
def readBinding (p : List Byte) : Option (RoleNo × Option Nat) :=
  ofLength 3 p <|
    match numbered 17 (field p 0 1), optionalAt p 1 1 with
    | some role, some cell => some (role, cell)
    | _, _ => none

/-- 34h SET_SIGNAL_LIMITS, 3 bytes: hold limit and settling count. -/
def readSignalLimits (p : List Byte) : Option (Nat × Nat) := ofLength 3 p (some (field p 0 1, field p 1 2))

/-- 38h STREAM_CONTROL. -/
structure StreamOperands where
  set : BitVec 48
  enable : Bool
  threshold : Nat
  flush : Bool
  deriving DecidableEq, Repr

/-- 38h STREAM_CONTROL, 10 bytes. -/
def readStream (p : List Byte) : Option StreamOperands :=
  ofLength 10 p <|
    match indicatorAt p 6, indicatorAt p 9 with
    | some enable, some flush => some ⟨BitVec.ofNat 48 (field p 0 6), enable, field p 7 2, flush⟩
    | _, _ => none

/-- 39h DRAIN_SAMPLES, 1 byte: the maximum count. -/
def readMaximum (p : List Byte) : Option Nat := ofLength 1 p (some (field p 0 1))

/-- 3Bh SET_NOTICE_ENABLES, 2 bytes: a set of thirteen kinds; a bit above the last is refused (R195). -/
def readEnables (p : List Byte) : Option (BitVec 13) :=
  ofLength 2 p (if field p 0 2 < 8192 then some (BitVec.ofNat 13 (field p 0 2)) else none)

end Sys2Proof.Machine
end

