-- ==== Sys2Proof/Machine/Arithmetic.lean ====
section
/-! DEFINITION. Machine/Arithmetic.lean: the commands of Gas Mass Arithmetic and Accounting: SET_GAS_ENTRY,
SET_ARITHMETIC_LIMITS, QUERY_ARITHMETIC (R106, R107, R111), READ_SHIFT and CLOSE_SHIFT (R133, R134). -/

namespace Sys2Proof.Machine

/-- R106: every name character lies in 20h to 7Eh. -/
def printable (name : List Byte) : Bool := name.all fun b => 0x20 ≤ b.toNat && b.toNat ≤ 0x7E

/-- R106: the lower flammable limit agrees with the flammable indicator: present and in range with yes, absent with no. -/
def lflAgrees (flammable : Bool) (lfl : Option Nat) : Bool :=
  match flammable, lfl with
  | true, some n => 1000 ≤ n && n ≤ 60000
  | false, none => true
  | _, _ => false

/-- R106: the entry that a request's fields make, when they are in range. -/
def gasEntryOf (o : GasOperands) : Option GasEntry :=
  if 1000 ≤ o.density && o.density ≤ 9999 && printable o.name && lflAgrees o.flammable o.lfl then
    some ⟨o.name, o.family, o.density, o.lfl⟩
  else none

/-- R106: a Gas Table entry replaced as a whole. -/
def State.setGas (g : GasIndex) (e : Option GasEntry) (s : State) : State := { s with gases := s.gases.set g e }

/-- R106: SET_GAS_ENTRY. -/
def handleSetGas (o : Nat × Option GasOperands) (s : State) : State × Reply :=
  if s.link.mode ≠ .offline then s.refuse .wrongMode
  else
    match numbered 8 o.1 with
    | none => s.refuse .outOfRange
    | some g =>
      match o.2 with
      | none => (s.setGas g none, ⟨.done, leBytes 1 o.1 ++ gasEntryBytes none⟩)
      | some fields =>
        match gasEntryOf fields with
        | none => s.refuse .outOfRange
        | some e => (s.setGas g (some e), ⟨.done, leBytes 1 o.1 ++ gasEntryBytes (some e)⟩)

/-- R111: SET_ARITHMETIC_LIMITS. -/
def handleSetArithmetic (o : Nat × Nat) (s : State) : State × Reply :=
  if s.link.mode ≠ .offline then s.refuse .wrongMode
  else if 200 < o.1 || 10000 < o.2 then s.refuse .outOfRange
  else ({ s with deadBand := o.1, maximumBaseline := o.2 }, ⟨.done, leBytes 2 o.1 ++ leBytes 2 o.2⟩)

/-- R107: QUERY_ARITHMETIC. -/
def handleQueryArithmetic (s : State) : State × Reply :=
  (s, ⟨.done, s.gases.toList.flatMap gasEntryBytes ++ leBytes 2 s.deadBand ++ leBytes 2 s.maximumBaseline⟩)

/-- SET_GAS_ENTRY (20h). -/
def execSetGasEntry (tag : Byte) (payload : List Byte) (s : State) : Answer :=
  takeRequest ⟨0x20#8, tag, payload⟩ (withLayout (readSetGas payload) handleSetGas) s

/-- SET_ARITHMETIC_LIMITS (21h). -/
def execSetArithmeticLimits (tag : Byte) (payload : List Byte) (s : State) : Answer :=
  takeRequest ⟨0x21#8, tag, payload⟩ (withLayout (readArithmeticLimits payload) handleSetArithmetic) s

/-- QUERY_ARITHMETIC (22h). -/
def execQueryArithmetic (tag : Byte) (payload : List Byte) (s : State) : Answer :=
  takeRequest ⟨0x22#8, tag, payload⟩ (withLayout (readNothing payload) fun _ => handleQueryArithmetic) s

/-- READ_SHIFT (24h). -/
def execReadShift (tag : Byte) (payload : List Byte) (s : State) : Answer :=
  takeRequest ⟨0x24#8, tag, payload⟩ (withLayout (readNothing payload) fun _ => handleReadShift) s

/-- CLOSE_SHIFT (25h). -/
def execCloseShift (tag : Byte) (payload : List Byte) (s : State) : Answer :=
  takeRequest ⟨0x25#8, tag, payload⟩ (withLayout (readNothing payload) fun _ => handleCloseShift) s

end Sys2Proof.Machine
end

