-- ==== Sys2Proof/Machine/Clock.lean ====
section
/-! DEFINITION. Machine/Clock.lean: the part's dated events: for each of its timers the ticks still missing to the event, and
how a command that stands for such an event lets those ticks pass (8.1). DESIGN CHOICE (notes/assumptions/2.md): an event comes
at its own tick and never before one that is due earlier. -/

namespace Sys2Proof.Machine

/-! ## The ticks still missing to each dated event -/

/-- The ticks that sending a frame takes. -/
def TxFrame.ticks (t : TxFrame) : Nat := Config.sendTicks (7 + t.payload.length)

/-- R188: the ticks missing to the end of the frame being sent. -/
def Sending.missing (x : Sending) : Nat := x.frame.ticks - x.elapsed

/-- R184: the ticks missing to the end of the gap inside a frame: more than 5 ms after the latest byte. -/
def FrameReceiver.missing (x : FrameReceiver) : Option Nat :=
  match x with
  | .waiting => none
  | .inside _ gap => some (Config.frameGapTicks + 1 - gap)

/-- R155: the ticks missing to the passing of the probe timeout. -/
def ScanInProgress.missing (p : ScanInProgress) : Nat := Config.probeTimeoutTicks + 1 - p.read.elapsed

/-- The tick of each timed end of a station's timer: R35, R39, R40 "reaches", R38, R47 "passes". -/
def State.stationDue (s : State) (x : StationState) : Nat :=
  match x with
  | .piercing => s.timing.pierceTime * Config.ticksPerTenth
  | .holding => s.timing.holdTime * Config.ticksPerSecond
  | .releasing => Config.releaseTicks
  | .evacuating => s.timing.evacLimit * Config.ticksPerSecond + 1
  | .suspended => s.timing.suspendLimit * Config.ticksPerSecond + 1
  | _ => 0

/-- The timer that runs in a station's state. -/
def Station.timer (st : Station) : Nat :=
  match st.state with
  | .piercing | .holding | .releasing => st.phaseTimer
  | .evacuating => st.evacElapsed
  | .suspended => st.suspElapsed
  | _ => 0

/-- Does a timer run in a station's state? -/
def StationState.timed (x : StationState) : Bool :=
  match x with
  | .piercing | .evacuating | .suspended | .holding | .releasing => true
  | _ => false

/-- R35, R38 to R40, R47: the ticks missing to a station's timed end. -/
def State.stationMissing (s : State) (i : StationNo) : Option Nat :=
  if (s.station i).state.timed then some (s.stationDue (s.station i).state - (s.station i).timer) else none

/-- R89, R93: the seconds of a wait phase's timeout. -/
def ChamberLimits.timeout (l : ChamberLimits) (x : Phase) : Option Nat :=
  match x with
  | .inertWait => some l.inertTimeout
  | .ventWait => some l.ventTimeout
  | _ => none

/-- R89, R93: the ticks missing to the expiry of the chamber's wait timeout. -/
def Chamber.missing (c : Chamber) : Option Nat :=
  match c.standing with
  | .charging x => (c.limits.timeout x.phase).map fun n => n * Config.ticksPerSecond + 1 - x.waitElapsed
  | _ => none

/-! ## Ticks that may pass -/

/-- The ticks missing to each of the part's dated events: the scan tick (R150), the end of the frame being sent, the gap inside
a frame, the probe timeout, the stations' timed ends and the chamber's wait timeout. -/
def State.dates (s : State) : List Nat :=
  s.scanner.countdown :: ((s.link.sending.map Sending.missing).toList ++ s.link.rx.missing.toList
    ++ (s.scanner.inProgress.map ScanInProgress.missing).toList ++ allStations.filterMap s.stationMissing
    ++ s.chamber.missing.toList)

/-- May `n` ticks pass without passing over one of the part's dated events? -/
def State.mayPass (n : Nat) (s : State) : Bool := s.dates.all fun m => n ≤ m

/-- A dated event to which `missing` ticks are still missing: they pass for the whole part, and then it acts. While another dated
event is due earlier it does not come yet, and nothing happens. -/
def State.atDate (missing : Nat) (act : State → State) (s : State) : State :=
  if s.mayPass missing then act (s.elapse missing) else s

end Sys2Proof.Machine
end

