-- ==== Sys2Proof/Machine/Charge.lean ====
section
/-! DEFINITION. Machine/Charge.lean: the chamber's shared operations: legal windows (R78), the charge boundary and loading
(R85, R86), the waiting decision (R82, R83), the end of a charge (R94, R95, R98, R99) and the halt (R96). -/

namespace Sys2Proof.Machine

/-- R76: the charge period P in scans. -/
def ChamberSettings.period (c : ChamberSettings) : Nat := (c.x + 1) * c.b

/-- R78: rounded down to a multiple of 8. -/
def floor8 (n : Nat) : Nat := n / 8 * 8

/-- R78, step 1. -/
def legalStart (s : Nat) : Nat := max (floor8 s) 16

/-- R78, step 2. -/
def legalEnd (p e : Nat) : Nat := if p - 32 < floor8 e then floor8 (p - 32) else floor8 e

/-- R78: the staged settings with S and E made legal against P. -/
def ChamberSettings.legalised (c : ChamberSettings) : ChamberSettings :=
  let p := c.period
  let s := legalStart c.s
  let e := legalEnd p c.e
  if e < s + 64 then
    if p - 32 < s + 64 then { c with s := floor8 (p - 96), e := floor8 (p - 96) + 64 }
    else { c with s := s, e := s + 64 }
  else { c with s := s, e := e }

/-- R79: is a mode transition pending? -/
def Chamber.transitionPending (c : Chamber) : Bool :=
  c.staged.mode ≠ c.inForce.mode || c.staged.gas ≠ c.inForce.gas

/-- R82: a unit is loadable when its class's foam gas is the chamber gas kind in force, or its class has none. -/
def State.loadable (s : State) (tag : Nat) : Bool :=
  match (s.findUnit tag).bind fun u => s.classEntry u.cls with
  | none => false
  | some c =>
    match c.foamGas with
    | none => true
    | some g => g = s.chamber.inForce.gas

/-- R86: the units that the boundary of a non-void charge takes: loadable units from the head of the Shred Queue, at most K,
up to the first that is not loadable. -/
def State.unitsToLoad (s : State) : List Nat :=
  (s.tracker.shredQueue.takeWhile s.loadable).take s.chamber.inForce.k

/-- R12: the units taken leave the Shred Queue; their records become IN_CHARGE with the charge number. -/
def State.loadUnits (tags : List Nat) (number : Nat) (s : State) : State :=
  s.setTracker
    { s.tracker with
      shredQueue := s.tracker.shredQueue.drop tags.length
      units := s.tracker.units.map fun u =>
        if u.tag ∈ tags then { u with state := .inCharge, charge := some number } else u }

/-- R85, step 4: the charge set up at a boundary. -/
def newCharge (number : Nat) (void : Bool) (units : List Nat) (baseline : Nat) (high : Bool) : Charge :=
  { number := number, phase := .load, units := units, index := 0, waitElapsed := 0, mass := 0, residue := 0
    baselineUsed := baseline, scansIntegrated := 0, heldScans := 0, clampedScans := 0
    flags := { ChargeFlags.none with void := void, highBaseline := high }
    tailSum := 0, tailCount := 0, tailClean := true, vented := false }

/-- R85, step 2: the charge counter advanced; it stays at 65,535. -/
def nextChargeNumber (n : Nat) : Nat := if n = Config.max16 then n else n + 1

/-- R85, steps 1 to 3 with R78: the settings taken up and the charge numbered, SETTINGS_APPLIED if staging was pending. -/
def State.applySettings (s : State) : State :=
  let c := s.chamber
  let number := nextChargeNumber c.counter
  let force := c.staged.legalised
  let t := s.setChamber
    { c with counter := number, inForce := force, stagingPending := false, startPending := false }
  if c.stagingPending then
    t.raise (.settingsApplied number force force.period (force.s ≠ c.staged.s || force.e ≠ c.staged.e))
  else t

/-- R85: a charge boundary. -/
def State.boundary (s : State) : State :=
  let void := s.chamber.startPending || s.chamber.transitionPending
  let s := s.applySettings
  let units := if void then [] else s.unitsToLoad
  let s := s.loadUnits units s.chamber.counter
  let c := s.chamber
  let s := s.setChamber
    { c with standing := .charging (newCharge c.counter void units c.baseline c.baselineHigh) }
  s.raise (.chargeBegin c.counter void c.inForce.mode c.inForce.gas c.inForce.period c.inForce.s c.inForce.e c.baseline
    units)

/-- R83: the mismatch report of an unloadable head unit, made once for each distinct unit. -/
def State.mismatchReport (tag : Nat) (s : State) : State :=
  match s.findUnit tag with
  | none => s
  | some u =>
    if s.chamber.lastMismatch = some (u.tag, u.admission) then s
    else
      match (s.classEntry u.cls).bind (·.foamGas) with
      | none => s
      | some g =>
        (s.setChamber { s.chamber with lastMismatch := some (u.tag, u.admission) }).raise
          (.modeMismatch u.tag g s.chamber.inForce.mode s.chamber.inForce.gas)

/-- R82: the waiting decision of a WAITING chamber. -/
def State.waitingDecision (s : State) : State :=
  match s.chamber.standing with
  | .waiting =>
    if s.chamber.transitionPending then s.boundary
    else
      match s.tracker.shredQueue with
      | [] => s
      | tag :: _ => if s.loadable tag then s.boundary else s.mismatchReport tag
  | _ => s

/-- R19, R82: a tag joins the Shred Queue at its tail; joining an empty queue changes its head, which the chamber observes. -/
def State.joinShredQueue (tag : Nat) (s : State) : State :=
  let t := s.setTracker { s.tracker with shredQueue := s.tracker.shredQueue ++ [tag] }
  if s.tracker.shredQueue.isEmpty then t.waitingDecision else t

/-- R19, R82: a withdrawn unit's tag leaves the Shred Queue; the chamber observes a change of the head. -/
def State.leaveShredQueue (tag : Nat) (s : State) : State :=
  let t := s.setTracker { s.tracker with shredQueue := s.tracker.shredQueue.erase tag }
  if s.tracker.shredQueue.head? = some tag then t.waitingDecision else t

/-! ## The end of a charge -/

/-- R98: the charge record finalised from the current charge. -/
def Charge.record (c : Charge) (force : ChamberSettings) (flags : ChargeFlags) (units : List (Nat × Nat)) : ChargeRecord :=
  { number := c.number, flags := flags, mode := force.mode, gas := force.gas, period := force.period, s := force.s
    e := force.e, baselineUsed := c.baselineUsed, scansIntegrated := c.scansIntegrated, heldScans := c.heldScans
    clampedScans := c.clampedScans, mass := milligrams32 c.mass, residue := c.residue, units := units }

/-- R99: a record enters the history; the oldest is discarded when 16 are held. -/
def enterHistory (r : ChargeRecord) (history : List ChargeRecord) : List ChargeRecord :=
  if history.length < Config.historySize then history ++ [r] else history.drop 1 ++ [r]

/-- R95, R117: the baseline in force after the end of a charge. -/
def Chamber.updateBaseline (truncated : Bool) (c : Charge) (maximum : Nat) (ch : Chamber) : Chamber :=
  if truncated || c.vented || !c.tailClean then ch
  else
    let quotient := c.tailSum / c.tailCount
    { ch with baseline := min quotient maximum, baselineHigh := maximum < quotient }

/-- R94, steps 1 to 5, and R96: the end of a charge, normal or truncated. -/
def State.endCharge (truncated : Bool) (c : Charge) (s : State) : State :=
  let flags := if truncated then { c.flags with truncated := true } else c.flags
  let mass := milligrams32 c.mass
  let r := c.record s.chamber.inForce flags (s.apportion flags mass c.units)
  let s := s.setChamber (s.chamber.updateBaseline truncated c s.maximumBaseline)
  let s := s.setShift (s.shift.countCharge flags r.gas mass)
  let s := s.closeUnits r r.units
  let s := s.setChamber { s.chamber with history := enterHistory r s.chamber.history }
  s.raise (.chargeEnd r.number flags mass r.units.length)

/-- R94: a charge that ends normally; step 6 stops the chamber or makes the waiting decision. -/
def State.endNormally (c : Charge) (s : State) : State :=
  let s := s.endCharge false c
  if s.chamber.stopPending then
    s.setChamber { s.chamber with standing := .stopped, stopPending := false, lastMismatch := none }
  else (s.setChamber { s.chamber with standing := .waiting }).waitingDecision

/-- R96: the halt at trip entry. -/
def State.haltChamber (s : State) : State :=
  let s := match s.chamber.standing with
    | .charging c => s.endCharge true c
    | _ => s
  s.setChamber { s.chamber with standing := .halted, stopPending := false, lastMismatch := none }

end Sys2Proof.Machine
end

