-- ==== Sys2Proof/Machine/StationOps.lean ====
section
/-! DEFINITION. Machine/StationOps.lean: the stations' shared operations: STATION_STATE (R31), the entry check (R36), the
suspension causes (R42, R45, R46), the way to RELEASING (R40), the degas result, and the arbiter's pass (R21, R22). -/

namespace Sys2Proof.Machine

/-- R31: what a STATION_STATE notice reports of a station. -/
def Station.view (st : Station) : StationState × Option Nat × Causes × Option FaultLatch :=
  (st.state, st.unit, st.causes, st.latch)

/-- R31: one STATION_STATE notice when a station stands otherwise than before the event. -/
def State.noteStation (before : Vector Station 4) (i : StationNo) (s : State) : State :=
  let st := s.station i
  if before[i].view = st.view then s else s.raise (.stationState i st.state st.unit st.causes st.latch)

/-- R31: the STATION_STATE notices of an event, one for each station that it changed, in number order. -/
def State.noteStations (before : Vector Station 4) (s : State) : State :=
  allStations.foldl (fun t i => t.noteStation before i) s

/-! ## Suspension -/

/-- R61: is a cylinder in service that can take refrigerant? -/
def ReceiverStanding.isInUse (x : ReceiverStanding) : Bool :=
  match x with
  | .inUse _ => true
  | _ => false

/-- R36: the causes that block evacuation for a family. -/
def State.blockers (s : State) (family : Option Family) : Causes :=
  match family with
  | none => .empty
  | some f =>
    { requested := false
      receiver := !(s.receiver f).standing.isInUse
      trip := s.link.mode = .tripped && f = .hydrocarbon }

/-- R36: the station after the entry check, given the blocking causes. -/
def Station.enterEvacuation (blockers : Causes) (st : Station) : Station :=
  if blockers.isEmpty then { st with state := .evacuating, causes := .empty }
  else
    { st with
      state := .suspended
      causes := st.causes.union blockers
      suspElapsed := if st.state = .suspended then st.suspElapsed else 0 }

/-- R36: the entry check of a station about to enter EVACUATING. -/
def State.entryCheck (i : StationNo) (s : State) : State :=
  s.setStation i ((s.station i).enterEvacuation (s.blockers (s.station i).family))

/-- R43, R45, R46: an EVACUATING station is handed a cause: EVAC closes and it enters SUSPENDED. -/
def Station.suspendFor (cause : Causes) (st : Station) : Station :=
  { st with state := .suspended, causes := st.causes.union cause, suspElapsed := 0 }

/-- R45, R46: a cause handed to a station if it is EVACUATING and of the family. -/
def State.handCause (cause : Causes) (family : Family) (s : State) (i : StationNo) : State :=
  let st := s.station i
  if st.state = .evacuating ∧ st.family = some family then s.setStation i (st.suspendFor cause) else s

/-- R45, R46: a cause handed to each EVACUATING station of a family. -/
def State.handCauseToAll (cause : Causes) (family : Family) (s : State) : State :=
  allStations.foldl (fun t i => t.handCause cause family i) s

/-- R42: a cause removed from a station; a removal that empties the set of a SUSPENDED station makes the entry check. -/
def State.removeCause (cause : Causes) (s : State) (i : StationNo) : State :=
  let st := s.station i
  if st.state = .suspended then
    let left := st.causes.without cause
    let t := s.setStation i { st with causes := left }
    if left.isEmpty then t.entryCheck i else t
  else s

/-- R45: the removal of RECEIVER handed to every station of a family. -/
def State.removeReceiverCause (family : Family) (s : State) : State :=
  allStations.foldl (fun t i => if (t.station i).family = some family then t.removeCause .ofReceiver i else t) s

/-- R46: the removal of TRIP handed to every station. -/
def State.removeTripCause (s : State) : State :=
  allStations.foldl (fun t i => t.removeCause .ofTrip i) s

/-! ## The end of a cycle -/

/-- R40: a station entering RELEASING. -/
def Station.toReleasing (st : Station) : Station :=
  { st with state := .releasing, causes := .empty, phaseTimer := 0 }

/-- R40, R57: the ticks of a cycle in tenths of a second, saturating at 65,535. -/
def cycleTenths (start now : Nat) : Nat := min ((now - start) / Config.ticksPerTenth) Config.max16

/-- R40: the degas result composed from a station's record at a moment. -/
def Station.result (i : StationNo) (now : Nat) (st : Station) : DegasResult :=
  { recovered := milligrams32 st.accumulator, finalPressure := st.latestPressure, lastRise := st.lastRise
    reevacuations := st.reevacuations, cycleTime := cycleTenths st.cycleStart now, station := i }

/-- The anomaly that ends a cycle reported (R6), and the station sent to RELEASING (R40). -/
def State.releaseWith (i : StationNo) (a : Anomaly) (s : State) : State :=
  let s := s.reportFrom (s.station i).unit a
  s.setStation i (s.station i).toReleasing

/-! ## The arbiter -/

/-- R22: may the unit be assigned, its circuit gas's family having its receiver IN_USE? -/
def State.eligible (s : State) (tag : Nat) : Bool :=
  match (s.findUnit tag).bind fun u => s.circuitFamily u.cls with
  | none => false
  | some f => (s.receiver f).standing.isInUse

/-- R29: the family of the unit a tag names. -/
def State.familyOfUnit (tag : Nat) (s : State) : Option Family :=
  (s.findUnit tag).bind fun u => s.circuitFamily u.cls

/-- R22: a unit assigned to a station, steps 1 to 4. -/
def State.assign (tag : Nat) (i : StationNo) (s : State) : State :=
  let family := s.familyOfUnit tag
  let s := s.setTracker { s.tracker with degasQueue := s.tracker.degasQueue.erase tag }
  let s := s.modifyUnit tag fun u => { u with state := .assigned, station := some i }
  let s := s.setStation i { s.station i with state := .assigned, unit := some tag, family := family }
  s.raise (.unitAssigned tag i)

/-- R22: the lowest-numbered IDLE station and the oldest eligible unit, if both exist. -/
def State.nextAssignment (s : State) : Option (Nat × StationNo) :=
  match allStations.find? fun i => (s.station i).state = .idle, s.tracker.degasQueue.find? s.eligible with
  | some i, some tag => some (tag, i)
  | _, _ => none

/-- R22: at most `n` assignments; a pass ends when a step assigns nothing. -/
def State.assignUpTo (n : Nat) (s : State) : State :=
  match n with
  | 0 => s
  | n + 1 =>
    match s.nextAssignment with
    | none => s
    | some (tag, i) => (s.assign tag i).assignUpTo n

/-- R21, R22: the arbiter's pass, made only in RUNNING. Each assignment takes an IDLE station, so four steps end it. -/
def State.arbiterPass (s : State) : State :=
  if s.link.mode = .running then s.assignUpTo 4 else s

end Sys2Proof.Machine
end

