-- ==== Sys2Proof/Machine/Trip.lean ====
section
/-! DEFINITION. Machine/Trip.lean: adding trip causes (R141, R143) and the trip entry (R142). -/

namespace Sys2Proof.Machine

/-- The number of the charge that runs, if the chamber is CHARGING. -/
def ChamberStanding.chargeNumber (x : ChamberStanding) : Option Nat :=
  match x with
  | .charging c => some c.number
  | _ => none

/-- R142: the trip entry with the causes added, steps 1 to 6. -/
def State.tripEntry (added : TripCauses) (s : State) : State :=
  let before := s.stations
  let s := s.setLink { s.link with mode := .tripped }
  let s := s.setProtection { s.protection with causes := added, clearHold := none }
  let s := s.setShift { s.shift with trips := s.shift.trips + 1 }
  let s := s.raise (.trip added added true s.chamber.standing.chargeNumber)
  let s := s.haltChamber
  let s := s.handCauseToAll .ofTrip .hydrocarbon
  s.noteStations before

/-- R143: causes added without a trip entry; TRIP is sent, when the line is TRIPPED, for those not already present. -/
def State.joinCauses (added : TripCauses) (s : State) : State :=
  let new := added.without s.protection.causes
  let all := s.protection.causes.union added
  let t := s.setProtection { s.protection with causes := all }
  if s.link.mode = .tripped && !new.isEmpty then t.raise (.trip new all false none) else t

/-- R136, R141: causes met at a scan or handed to Protection. In RUNNING with an empty set they make the trip entry. -/
def State.addCauses (added : TripCauses) (s : State) : State :=
  if added.isEmpty then s
  else if s.link.mode = .running && s.protection.causes.isEmpty then s.tripEntry added
  else s.joinCauses added

end Sys2Proof.Machine
end

