-- ==== Sys2Proof/Machine/Chamber.lean ====
section
/-! DEFINITION. Machine/Chamber.lean: the commands of the shredding chamber: the published scan in each phase (R87 to R92),
the wait timeouts (R89, R93) and the chamber requests (R77, R80, R81, R84, R100, R101). -/

namespace Sys2Proof.Machine

/-! ## Integration (R90, R113 to R115) -/

/-- R113: the effective concentration. -/
def effective (conc baseline : Nat) : Nat := conc - baseline

/-- R114: the product of an integrated scan; at most the largest unsigned 64-bit value. -/
def chamberProduct (flow elapsed conc density : Nat) : Nat := min (flow * elapsed * conc * density) Config.max64

/-- R115: the increment and the residue that a product gives, carried into the charge. -/
def Charge.addProduct (product : Nat) (c : Charge) : Charge :=
  let total := addTo64 product c.residue
  { c with mass := addTo64 c.mass (total / 100000), residue := total % 100000 }

/-- R90, R91: the charge's count and flag of a clamped scan. -/
def Charge.noteClamp (clamped : Bool) (c : Charge) : Charge :=
  if clamped then { c with clampedScans := c.clampedScans + 1, flags := { c.flags with clampedScans := true } } else c

/-- R90: what an integrated scan adds to the charge. -/
def Charge.integrate (density : Nat) (x : Scan) (c : Charge) : Charge :=
  let flow := x.role roleChamberFlow
  let conc := x.role roleChamberConc
  let silent := flow.condition.silent || conc.condition.silent
  let q := clampTo chamberFlowMost flow.value
  let p := clampTo chamberConcMost conc.value
  let product := if silent then 0 else chamberProduct q x.elapsed (effective p c.baselineUsed) density
  let c := c.addProduct product
  let c := { c with
    scansIntegrated := c.scansIntegrated + 1
    heldScans := c.heldScans + (if flow.condition = Condition.held || conc.condition = Condition.held then 1 else 0)
    flags := { c.flags with signalLost := c.flags.signalLost || silent } }
  c.noteClamp (clampChanges chamberFlowMost flow.value || clampChanges chamberConcMost conc.value)

/-- R105: the density factor of the chamber gas kind in force. -/
def State.densityInForce (s : State) : Nat := ((s.gas s.chamber.inForce.gas).map (·.density)).getD 0

/-- The chamber's state with its current charge replaced. -/
def State.setCharge (c : Charge) (s : State) : State :=
  s.setChamber { s.chamber with standing := .charging c }

/-! ## A published scan in each phase (R87) -/

/-- R88: the inert check at a scan. -/
def inertCheck (permit : Nat) (x : Scan) : Bool :=
  let r := x.role roleChamberOxygen
  r.condition.usable && r.value ≤ (permit : Int)

/-- R88: the charge after an inert check. -/
def Charge.afterInertCheck (passes : Bool) (c : Charge) : Charge :=
  if passes then { c with phase := .window }
  else if c.phase = .inertWait then c
  else { c with phase := .inertWait, waitElapsed := 0 }

/-- R87: a LOAD scan. -/
def State.loadScan (c : Charge) (x : Scan) (s : State) : State :=
  let c := { c with index := c.index + 1 }
  if c.index = s.chamber.inForce.s then
    match s.chamber.inForce.mode with
    | .fluorinated => s.setCharge { c with phase := .window }
    | .hydrocarbon => s.setCharge (c.afterInertCheck (inertCheck s.chamber.limits.inertPermit x))
  else s.setCharge c

/-- R90: in H mode a LOST or ABSENT flow or concentration is not integrated and is handed to Protection. -/
def silentChamber (x : Scan) : Bool :=
  (x.role roleChamberFlow).condition.silent || (x.role roleChamberConc).condition.silent

/-- R90: a scan in WINDOW or VENT_WAIT integrated, then `next`; in H mode a lost signal goes to Protection instead. -/
def State.integrateThen (c : Charge) (x : Scan) (next : Charge → State → State) (s : State) : State :=
  if s.chamber.inForce.mode = .hydrocarbon && silentChamber x then
    (s.setCharge { c with flags := { c.flags with signalLost := true } }).addCauses .ofSignalLost
  else next (c.integrate s.densityInForce x) s

/-- R87: a WINDOW scan after its integration. -/
def State.windowScan (c : Charge) (s : State) : State :=
  let c := { c with index := c.index + 1 }
  if c.index = s.chamber.inForce.e then s.setCharge { c with phase := .tail } else s.setCharge c

/-- R91: what a TAIL scan adds to the charge. -/
def Charge.sumTail (mode : Family) (x : Scan) (c : Charge) : Charge :=
  let conc := x.role roleChamberConc
  let c := { c with index := c.index + 1 }
  if conc.condition.silent then
    { c with tailClean := false, flags := { c.flags with signalLost := c.flags.signalLost || mode = .fluorinated } }
  else
    ({ c with tailSum := c.tailSum + clampTo chamberConcMost conc.value, tailCount := c.tailCount + 1 }).noteClamp
      (clampChanges chamberConcMost conc.value)

/-- R92: is the chamber air below the vent level at a scan? -/
def ventClear (level : Nat) (x : Scan) : Bool :=
  let conc := x.role roleChamberConc
  conc.condition.usable && clampTo chamberConcMost conc.value < level

/-- R91, R92: a TAIL scan. -/
def State.tailScan (c : Charge) (x : Scan) (s : State) : State :=
  let c := c.sumTail s.chamber.inForce.mode x
  if s.chamber.inForce.mode = .hydrocarbon && (x.role roleChamberConc).condition.silent then
    (s.setCharge c).addCauses .ofSignalLost
  else if c.index = s.chamber.inForce.period then
    if ventClear s.chamber.limits.ventLevel x then s.endNormally c
    else s.setCharge { c with phase := .ventWait, waitElapsed := 0, vented := true }
  else s.setCharge c

/-- R92: a VENT_WAIT scan after its integration. -/
def State.ventScan (x : Scan) (c : Charge) (s : State) : State :=
  if ventClear s.chamber.limits.ventLevel x then s.endNormally c else s.setCharge c

/-- CHAMBER_SCAN: the chamber takes a published scan; in STOPPED, WAITING and HALTED it does nothing (R87). -/
def State.chamberScan (x : Scan) (s : State) : State :=
  match s.chamber.standing with
  | .charging c =>
    match c.phase with
    | .load => s.loadScan c x
    | .inertWait => s.setCharge (c.afterInertCheck (inertCheck s.chamber.limits.inertPermit x))
    | .window => s.integrateThen c x State.windowScan
    | .tail => s.tailScan c x
    | .ventWait => s.integrateThen c x (State.ventScan x)
  | _ => s

/-- CHAMBER_SCAN. -/
def execChamberScan (s : State) : Answer := takeScan .chamber State.chamberScan s

/-! ## The wait timeouts -/

/-- R89, R93: the expiry of a wait phase's timeout, `seconds` long; outside the phase the expiry does not come. -/
def State.waitExpiry (phase : Phase) (seconds : Nat) (cause : TripCauses) (s : State) : State :=
  match s.chamber.standing with
  | .charging c =>
    if c.phase = phase then s.atDate (seconds * Config.ticksPerSecond + 1 - c.waitElapsed) (State.addCauses cause) else s
  | _ => s

/-- INERT_TIMEOUT_EXPIRY (R89). -/
def execInertTimeoutExpiry (s : State) : Answer :=
  .next (s.waitExpiry .inertWait s.chamber.limits.inertTimeout .ofInertingFailed).settle

/-- VENT_TIMEOUT_EXPIRY (R93). -/
def execVentTimeoutExpiry (s : State) : Answer :=
  .next (s.waitExpiry .ventWait s.chamber.limits.ventTimeout .ofVentFailed).settle

/-! ## The chamber requests -/

/-- R77, R81: does the gas kind name a defined entry of the mode's family? -/
def State.gasSuits (s : State) (mode : Family) (g : GasIndex) : Bool :=
  match s.gas g with
  | none => false
  | some e => e.family = mode

/-- A value moved into a range. -/
def clampInto (low high n : Nat) : Nat := max low (min n high)

/-- R77: the staged settings with B, X and K clamped; S and E as carried. -/
def SettingsOperands.clamped (o : SettingsOperands) (g : GasIndex) : ChamberSettings :=
  { mode := o.mode, gas := g, b := clampInto 256 16384 o.b, x := clampInto 0 15 o.x, s := o.s, e := o.e
    k := clampInto 1 8 o.k }

/-- R77: did the clamping change a value? -/
def SettingsOperands.clampChanged (o : SettingsOperands) (c : ChamberSettings) : Bool :=
  o.b ≠ c.b || o.x ≠ c.x || o.k ≠ c.k

/-- R77: STAGE_CHAMBER_SETTINGS. The waiting decision of an accepted staging finds a pending transition, or nothing new. -/
def handleStage (o : SettingsOperands) (s : State) : State × Reply :=
  if s.link.mode = .tripped then s.refuse .wrongMode
  else
    match numbered 8 o.gas with
    | none => s.refuse .outOfRange
    | some g =>
      if s.gasSuits o.mode g then
        let staged := o.clamped g
        let t := (s.setChamber { s.chamber with staged := staged, stagingPending := true }).waitingDecision
        (t, ⟨if o.clampChanged staged then .clamped else .staged, staged.bytes⟩)
      else s.refuse .outOfRange

/-- R81: START_CHAMBER. -/
def handleStart (s : State) : State × Reply :=
  if s.link.mode ≠ .running then s.refuse .wrongMode
  else
    match s.chamber.standing with
    | .stopped =>
      if s.gasSuits s.chamber.staged.mode s.chamber.staged.gas then
        let t := (s.setChamber { s.chamber with startPending := true }).boundary
        (t, ⟨.done, leBytes 2 t.chamber.counter⟩)
      else s.refuse .notReady
    | _ => s.refuse .wrongState

/-- R84: STOP_CHAMBER. -/
def handleStop (s : State) : State × Reply :=
  match s.chamber.standing with
  | .waiting => (s.setChamber { s.chamber with standing := .stopped, lastMismatch := none }, .bare .done)
  | .charging _ =>
    if s.chamber.stopPending then s.refuse .ignored
    else (s.setChamber { s.chamber with stopPending := true }, .bare .staged)
  | _ => s.refuse .ignored

/-- R80: are the chamber limits in range? -/
def ChamberLimits.inRange (l : ChamberLimits) : Bool :=
  10 ≤ l.inertPermit && l.inertPermit ≤ 150 && 10 ≤ l.inertTimeout && l.inertTimeout ≤ 1200
    && 10 ≤ l.ventLevel && l.ventLevel ≤ 10000 && 10 ≤ l.ventTimeout && l.ventTimeout ≤ 3600

/-- 11.10: the chamber limits as SET_CHAMBER_LIMITS carries them. -/
def ChamberLimits.bytes (l : ChamberLimits) : List Byte :=
  leBytes 1 l.inertPermit ++ leBytes 2 l.inertTimeout ++ leBytes 2 l.ventLevel ++ leBytes 2 l.ventTimeout

/-- R80: SET_CHAMBER_LIMITS. -/
def handleSetChamberLimits (l : ChamberLimits) (s : State) : State × Reply :=
  if s.link.mode ≠ .offline then s.refuse .wrongMode
  else if !l.inRange then s.refuse .outOfRange
  else (s.setChamber { s.chamber with limits := l }, ⟨.done, l.bytes⟩)

/-- R100: READ_CHARGE returns the newest record of the history with the number. -/
def handleReadCharge (n : Nat) (s : State) : State × Reply :=
  match s.chamber.history.reverse.find? fun r => r.number = n with
  | none => s.refuse .notFound
  | some r => (s, ⟨.done, r.bytes⟩)

/-- R101: the elapsed seconds of a wait phase, present in INERT_WAIT and VENT_WAIT. -/
def Charge.waitSeconds (c : Charge) : Option Nat :=
  match c.phase with
  | .inertWait | .ventWait => some (c.waitElapsed / Config.ticksPerSecond)
  | _ => none

/-- 11.11: the current charge's fields in the QUERY_CHAMBER reply. -/
def Charge.queryBytes (c : Charge) : List Byte :=
  0x01#8 :: (leBytes 2 c.number ++ indicator c.flags.void ++ leBytes 1 c.units.length ++ places 4 8 c.units
    ++ leBytes 4 c.index ++ optional 2 c.waitSeconds ++ leBytes 4 (milligrams32 c.mass) ++ leBytes 1 c.flags.mask)

/-- R101, 11.11: the QUERY_CHAMBER reply's fields. -/
def Chamber.queryBytes (c : Chamber) : List Byte :=
  leBytes 1 c.standing.code
    ++ optional 1 (match c.standing with
        | .charging x => some x.phase.code
        | _ => none)
    ++ indicator c.stopPending ++ c.inForce.bytes ++ leBytes 4 c.inForce.period ++ c.staged.bytes
    ++ indicator c.stagingPending ++ indicator c.transitionPending ++ leBytes 2 c.counter ++ leBytes 2 c.baseline
    ++ indicator c.baselineHigh ++ c.limits.bytes
    ++ (match c.standing with
        | .charging x => x.queryBytes
        | _ => List.replicate 49 0x00#8)

/-- R101: QUERY_CHAMBER. -/
def handleQueryChamber (s : State) : State × Reply := (s, ⟨.done, s.chamber.queryBytes⟩)

/-- STAGE_CHAMBER_SETTINGS (18h). -/
def execStageChamberSettings (tag : Byte) (payload : List Byte) (s : State) : Answer :=
  takeRequest ⟨0x18#8, tag, payload⟩ (withLayout (readSettings payload) handleStage) s

/-- START_CHAMBER (19h). -/
def execStartChamber (tag : Byte) (payload : List Byte) (s : State) : Answer :=
  takeRequest ⟨0x19#8, tag, payload⟩ (withLayout (readNothing payload) fun _ => handleStart) s

/-- STOP_CHAMBER (1Ah). -/
def execStopChamber (tag : Byte) (payload : List Byte) (s : State) : Answer :=
  takeRequest ⟨0x1A#8, tag, payload⟩ (withLayout (readNothing payload) fun _ => handleStop) s

/-- SET_CHAMBER_LIMITS (1Bh). -/
def execSetChamberLimits (tag : Byte) (payload : List Byte) (s : State) : Answer :=
  takeRequest ⟨0x1B#8, tag, payload⟩ (withLayout (readChamberLimits payload) handleSetChamberLimits) s

/-- READ_CHARGE (1Ch). -/
def execReadCharge (tag : Byte) (payload : List Byte) (s : State) : Answer :=
  takeRequest ⟨0x1C#8, tag, payload⟩ (withLayout (readChargeNumber payload) handleReadCharge) s

/-- QUERY_CHAMBER (1Dh). -/
def execQueryChamber (tag : Byte) (payload : List Byte) (s : State) : Answer :=
  takeRequest ⟨0x1D#8, tag, payload⟩ (withLayout (readNothing payload) fun _ => handleQueryChamber) s

end Sys2Proof.Machine
end

