-- ==== Sys2Proof/Machine/Protection.lean ====
section
/-! DEFINITION. Machine/Protection.lean: the commands of Flammable Gas Protection: the published scan (R138 to R141, R145),
EMERGENCY_TRIP, CLEAR_TRIP, SET_PROTECTION_LIMITS and QUERY_PROTECTION (R137, R144, R146, R148). -/

namespace Sys2Proof.Machine

/-! ## Levels (7.2) -/

/-- 7.2: the lower flammable limit of the chamber gas kind in force; none when it is not flammable or not defined. -/
def State.chamberLfl (s : State) : Option Nat := (s.gas s.chamber.inForce.gas).bind (·.lfl)

/-- 7.2: floor(LFL × percent / 100), when there is an LFL. -/
def percentLevel (lfl : Option Nat) (percent : Nat) : Option Nat := lfl.map fun n => n * percent / 100

/-- 7.2: the load-trip level in ppm. -/
def State.loadTripLevel (s : State) : Option Nat := percentLevel s.chamberLfl s.protection.limits.loadTripPercent

/-- 7.2: the clear level in ppm. -/
def State.clearLevel (s : State) : Option Nat := percentLevel s.chamberLfl s.protection.limits.clearPercent

/-! ## A published scan -/

/-- R139, R145 with R109: the concentration used at a scan. -/
def concentrationAt (x : Scan) : Nat := clampTo chamberConcMost (x.role roleChamberConc).value

/-- R139 to R141: the phase of the charge that runs, if one does. -/
def ChamberStanding.phase (x : ChamberStanding) : Option Phase :=
  match x with
  | .charging c => some c.phase
  | _ => none

/-- R139: LOAD_CONC holds at a scan. -/
def State.loadConcAt (x : Scan) (s : State) : Bool :=
  s.chamber.inForce.mode = Family.hydrocarbon && s.chamber.standing.phase = some Phase.load
    && (x.role roleChamberConc).condition.usable
    && (match s.loadTripLevel with
        | none => false
        | some level => level ≤ concentrationAt x)

/-- R140: the phases in which oxygen is watched. -/
def Phase.watchesOxygen (p : Phase) : Bool :=
  match p with
  | .window | .tail | .ventWait => true
  | .load | .inertWait => false

/-- R140: OXYGEN_HIGH holds at a scan; the oxygen value is not clamped. -/
def State.oxygenHighAt (x : Scan) (s : State) : Bool :=
  s.chamber.inForce.mode = Family.hydrocarbon
    && (match s.chamber.standing.phase with
        | none => false
        | some p => p.watchesOxygen)
    && (x.role roleChamberOxygen).condition.usable
    && (s.protection.limits.oxygenTrip : Int) ≤ (x.role roleChamberOxygen).value

/-- R141: the chamber is CHARGING in any phase or WAITING. -/
def ChamberStanding.atWork (x : ChamberStanding) : Bool :=
  match x with
  | .charging _ | .waiting => true
  | .stopped | .halted => false

/-- R141: SIGNAL_LOST holds at a scan. -/
def State.signalLostScan (x : Scan) (s : State) : Bool :=
  s.chamber.inForce.mode = Family.hydrocarbon && s.chamber.standing.atWork
    && ((x.role roleChamberConc).condition.silent || (x.role roleChamberOxygen).condition.silent)

/-- R138: the scan conditions that hold, found together. -/
def State.scanCauses (x : Scan) (s : State) : TripCauses :=
  { TripCauses.empty with
    loadConc := s.loadConcAt x, oxygenHigh := s.oxygenHighAt x, signalLost := s.signalLostScan x }

/-- R145: does a published scan qualify for the clear-hold run? -/
def State.qualifies (x : Scan) (s : State) : Bool :=
  (x.role roleChamberConc).condition = Condition.valid
    && (if s.chamber.inForce.mode = Family.hydrocarbon then
          match s.clearLevel with
          | none => true
          | some level => concentrationAt x < level
        else true)

/-- R145: the clear-hold measurement after a scan. -/
def runAfter (qualifies : Bool) (moment : Nat) (run : Option Nat) : Option Nat :=
  if qualifies then
    match run with
    | none => some moment
    | some m => some m
  else none

/-- R145: the clear-hold measurement kept at a scan taken while TRIPPED. -/
def State.measureHold (x : Scan) (s : State) : State :=
  if s.link.mode = .tripped then
    s.setProtection { s.protection with clearHold := runAfter (s.qualifies x) x.moment s.protection.clearHold }
  else s

/-- R138, R145: Protection takes a published scan. DESIGN CHOICE (notes/assumptions/12.md): the scan that makes the trip entry
begins no clear-hold run, since the entry makes the measurement absent. -/
def State.protectionScan (x : Scan) (s : State) : State := (s.measureHold x).addCauses (s.scanCauses x)

/-- PROTECTION_SCAN. -/
def execProtectionScan (s : State) : Answer := takeScan .protection State.protectionScan s

/-! ## The protection requests -/

/-- R144: EMERGENCY_TRIP. -/
def handleEmergencyTrip (s : State) : State × Reply :=
  if s.link.mode = .running then (s.addCauses .ofRequested, .bare .done)
  else if s.protection.causes.requestedTrip then s.refuse .ignored
  else (s.joinCauses .ofRequested, .bare .done)

/-- R146: has the clear-hold run reached the clear hold time? -/
def State.holdReached (s : State) : Bool :=
  match s.protection.clearHold with
  | none => false
  | some m => s.protection.limits.clearHold * Config.ticksPerSecond ≤ s.now - m

/-- R97: the clearance of a HALTED chamber, which goes to STOPPED. -/
def State.clearChamber (s : State) : State :=
  match s.chamber.standing with
  | .halted => s.setChamber { s.chamber with standing := .stopped }
  | _ => s

/-- R146: an accepted CLEAR_TRIP, steps 1 to 6. -/
def State.clearTrip (s : State) : State :=
  let before := s.stations
  let set := s.protection.causes
  let s := s.setProtection { s.protection with causes := .empty, clearHold := none }
  let s := s.setLink { s.link with mode := .running }
  let s := s.clearChamber
  let s := s.removeTripCause.noteStations before
  let s := s.raise (.tripCleared set)
  s.arbiterPass.noteStations s.stations

/-- R146: CLEAR_TRIP. -/
def handleClearTrip (s : State) : State × Reply :=
  match s.link.mode with
  | .offline => s.refuse .wrongMode
  | .running => s.refuse .ignored
  | .tripped => if s.holdReached then (s.clearTrip, .bare .done) else s.refuse .notClear

/-- R137: are the protection settings in range? -/
def ProtectionLimits.inRange (l : ProtectionLimits) : Bool :=
  5 ≤ l.loadTripPercent && l.loadTripPercent ≤ 50 && 20 ≤ l.oxygenTrip && l.oxygenTrip ≤ 210
    && 1 ≤ l.clearPercent && l.clearPercent ≤ 50 && l.clearPercent ≤ l.loadTripPercent
    && 5 ≤ l.clearHold && l.clearHold ≤ 600

/-- 11.10: the protection settings as SET_PROTECTION_LIMITS carries them. -/
def ProtectionLimits.bytes (l : ProtectionLimits) : List Byte :=
  leBytes 1 l.loadTripPercent ++ leBytes 1 l.oxygenTrip ++ leBytes 1 l.clearPercent ++ leBytes 2 l.clearHold

/-- R137: SET_PROTECTION_LIMITS. -/
def handleSetProtection (l : ProtectionLimits) (s : State) : State × Reply :=
  if s.link.mode ≠ .offline then s.refuse .wrongMode
  else if !l.inRange then s.refuse .outOfRange
  else (s.setProtection { s.protection with limits := l }, ⟨.done, l.bytes⟩)

/-- R148: the clear-hold measurement's elapsed time in tenths of a second, at its ceiling when it passes 32 bits. -/
def State.holdTenths (s : State) : Option Nat :=
  s.protection.clearHold.map fun m => min ((s.now - m) / Config.ticksPerTenth) Config.max32

/-- R148, 11.11: the QUERY_PROTECTION reply's fields. -/
def State.protectionBytes (s : State) : List Byte :=
  leBytes 1 s.link.mode.code ++ leBytes 1 s.protection.causes.mask
    ++ indicator (s.link.mode = .offline && s.protection.causes.requestedTrip) ++ s.protection.limits.bytes
    ++ optional 2 s.loadTripLevel ++ optional 2 s.clearLevel ++ optional 4 s.holdTenths
    ++ indicator (s.link.mode = .tripped && s.holdReached)

/-- R148: QUERY_PROTECTION. -/
def handleQueryProtection (s : State) : State × Reply := (s, ⟨.done, s.protectionBytes⟩)

/-- SET_PROTECTION_LIMITS (28h). -/
def execSetProtectionLimits (tag : Byte) (payload : List Byte) (s : State) : Answer :=
  takeRequest ⟨0x28#8, tag, payload⟩ (withLayout (readProtectionLimits payload) handleSetProtection) s

/-- EMERGENCY_TRIP (29h). -/
def execEmergencyTrip (tag : Byte) (payload : List Byte) (s : State) : Answer :=
  takeRequest ⟨0x29#8, tag, payload⟩ (withLayout (readNothing payload) fun _ => handleEmergencyTrip) s

/-- CLEAR_TRIP (2Ah). -/
def execClearTrip (tag : Byte) (payload : List Byte) (s : State) : Answer :=
  takeRequest ⟨0x2A#8, tag, payload⟩ (withLayout (readNothing payload) fun _ => handleClearTrip) s

/-- QUERY_PROTECTION (2Bh). -/
def execQueryProtection (tag : Byte) (payload : List Byte) (s : State) : Answer :=
  takeRequest ⟨0x2B#8, tag, payload⟩ (withLayout (readNothing payload) fun _ => handleQueryProtection) s

end Sys2Proof.Machine
end

