-- ==== Sys2Proof/Machine/Receivers.lean ====
section
/-! DEFINITION. Machine/Receivers.lean: the commands of the recovery receivers: the published scan (R63, R64), the swap (R66
to R68), QUERY_RECEIVER and SET_FILL_LIMIT (R70, R71). -/

namespace Sys2Proof.Machine

/-- R61: the current cylinder, present in IN_USE and FULL. -/
def ReceiverStanding.cylinder (x : ReceiverStanding) : Option Cylinder :=
  match x with
  | .inUse c => some c
  | .full c => some c
  | .swapping => none

/-- 3.1: a receiver's state by name. -/
def ReceiverStanding.name (x : ReceiverStanding) : ReceiverState :=
  match x with
  | .inUse _ => .inUse
  | .full _ => .full
  | .swapping => .swapping

/-- R63: the net weight in g, present with a current cylinder and a current weight. -/
def Receiver.netWeight (r : Receiver) : Option Int :=
  match r.standing.cylinder, r.weight with
  | some c, some w => some (w - (c.tare : Int))
  | _, _ => none

/-- R69: the RECEIVER_STATE notice of a receiver as it stands. -/
def Receiver.notice (f : Family) (r : Receiver) : Notice :=
  .receiverState f r.standing.name (r.standing.cylinder.map (·.serial))
    (r.standing.cylinder.map fun c => milligrams c.delivered) r.netWeight

/-- R63: the weight used at a scan and its condition, kept. -/
def Receiver.weigh (reading : RoleReading) (r : Receiver) : Receiver :=
  { r with
    weight := if reading.condition.usable then some reading.value else none
    weightCondition := some reading.condition }

/-- R64: has an IN_USE receiver reached its fill limit at a weight that was read? -/
def Receiver.reachedLimit (r : Receiver) : Bool :=
  match r.netWeight with
  | none => false
  | some n => (r.fillLimit : Int) ≤ n

/-- R64: fill detection, against the fill limit at the moment the receiver takes the scan. DESIGN CHOICE
(notes/assumptions/30.md): so a scan published before SET_FILL_LIMIT and taken after it meets the new limit (R71). -/
def State.detectFill (f : Family) (s : State) : State :=
  let r := s.receiver f
  match r.standing with
  | .inUse c =>
    if r.reachedLimit then
      let before := s.stations
      let s := s.setReceiver f { r with standing := .full c }
      let s := (s.handCauseToAll .ofReceiver f).noteStations before
      s.raise ((s.receiver f).notice f)
    else s
  | _ => s

/-- RECEIVER_SCAN: a receiver takes a published scan. -/
def State.receiverScan (f : Family) (x : Scan) (s : State) : State :=
  (s.setReceiver f ((s.receiver f).weigh (x.role (roleReceiverWeight f)))).detectFill f

/-- RECEIVER_SCAN. -/
def execReceiverScan (f : Family) (s : State) : Answer := takeScan (.receiver f) (fun x t => t.receiverScan f x) s

/-- R67: the closed cylinder record. -/
def Receiver.closeCylinder (c : Cylinder) (r : Receiver) : ClosedCylinder :=
  let delivered := milligrams c.delivered
  { serial := c.serial, tare := c.tare, netWeighed := r.netWeight, delivered := delivered
    difference := r.netWeight.map fun n => n * 1000 - (delivered : Int) }

/-- R66: is a station of the family EVACUATING? -/
def State.familyEvacuating (s : State) (f : Family) : Bool :=
  allStations.any fun i => (s.station i).state = .evacuating && (s.station i).family = some f

/-- R66, R67: BEGIN_SWAP. -/
def handleBeginSwap (f : Family) (s : State) : State × Reply :=
  let r := s.receiver f
  match r.standing.cylinder with
  | none => s.refuse .wrongState
  | some c =>
    if s.familyEvacuating f then s.refuse .wrongState
    else
      let closed := r.closeCylinder c
      let r := { r with standing := .swapping, lastClosed := some closed }
      ((s.setReceiver f r).raise (r.notice f), ⟨.done, closed.bytes⟩)

/-- R68: END_SWAP accepted, steps 1 to 5. -/
def State.beginCylinder (f : Family) (c : Cylinder) (s : State) : State :=
  let before := s.stations
  let s := s.setReceiver f { s.receiver f with standing := .inUse c }
  let s := (s.removeReceiverCause f).noteStations before
  let s := s.raise ((s.receiver f).notice f)
  s.arbiterPass.noteStations s.stations

/-- R68: END_SWAP. DEDUCED (notes/assumptions/10.md, notes/assumptions/11.md): it reads the weight and the condition of the
published scan that the receiver took latest, also after a BIND_SIGNAL has unbound or rebound the weight role since: the change
applies from the next publication (R171). -/
def handleEndSwap (o : Family × Nat) (s : State) : State × Reply :=
  let r := s.receiver o.1
  match r.standing with
  | .swapping =>
    match r.weight with
    | none => s.refuse .notReady
    | some w =>
      if r.weightCondition ≠ some .valid then s.refuse .notReady
      else if w < 0 then s.refuse .outOfRange
      else
        let c : Cylinder := { serial := o.2, tare := w.toNat, delivered := 0 }
        (s.beginCylinder o.1 c, ⟨.done, leBytes 4 c.serial ++ leBytes 4 c.tare ++ leBytes 8 c.delivered⟩)
  | _ => s.refuse .wrongState

/-- R164, R70, R169: the condition of a receiver's weight role at the latest published scan. -/
def State.weightCondition (s : State) (f : Family) : Condition := (s.latestReading (roleReceiverWeight f)).condition

/-- R70: the number of stations of a family in a condition. -/
def State.countStations (s : State) (f : Family) (p : Station → Bool) : Nat :=
  (allStations.filter fun i => (s.station i).family = some f && p (s.station i)).length

/-- R70, 11.11: the QUERY_RECEIVER reply's fields. -/
def State.receiverBytes (s : State) (f : Family) : List Byte :=
  let r := s.receiver f
  leBytes 1 r.standing.name.code ++ leBytes 4 r.fillLimit ++ leBytes 1 (s.weightCondition f).code
    ++ optionalSigned 4 r.weight ++ optionalSigned 8 r.netWeight
    ++ (match r.standing.cylinder with
        | none => List.replicate 25 0x00#8
        | some c =>
          0x01#8 :: (leBytes 4 c.serial ++ leBytes 4 c.tare ++ leBytes 8 c.delivered
            ++ leBytes 8 (milligrams c.delivered)))
    ++ (match r.lastClosed with
        | none => List.replicate 35 0x00#8
        | some c => 0x01#8 :: c.bytes)
    ++ leBytes 1 (s.countStations f fun st => st.state = .evacuating)
    ++ leBytes 1 (s.countStations f fun st => st.state = .suspended && st.causes.receiver)

/-- R70: QUERY_RECEIVER. -/
def handleQueryReceiver (f : Family) (s : State) : State × Reply := (s, ⟨.done, s.receiverBytes f⟩)

/-- R71: SET_FILL_LIMIT. -/
def handleSetFillLimit (o : Family × Nat) (s : State) : State × Reply :=
  if s.link.mode ≠ .offline then s.refuse .wrongMode
  else if o.2 < 1000 || 100000 < o.2 then s.refuse .outOfRange
  else (s.setReceiver o.1 { s.receiver o.1 with fillLimit := o.2 }, ⟨.done, leBytes 4 o.2⟩)

/-- BEGIN_SWAP (10h). -/
def execBeginSwap (tag : Byte) (payload : List Byte) (s : State) : Answer :=
  takeRequest ⟨0x10#8, tag, payload⟩ (withLayout (readReceiver payload) handleBeginSwap) s

/-- END_SWAP (11h). -/
def execEndSwap (tag : Byte) (payload : List Byte) (s : State) : Answer :=
  takeRequest ⟨0x11#8, tag, payload⟩ (withLayout (readReceiverAndNumber payload) handleEndSwap) s

/-- QUERY_RECEIVER (12h). -/
def execQueryReceiver (tag : Byte) (payload : List Byte) (s : State) : Answer :=
  takeRequest ⟨0x12#8, tag, payload⟩ (withLayout (readReceiver payload) handleQueryReceiver) s

/-- SET_FILL_LIMIT (13h). -/
def execSetFillLimit (tag : Byte) (payload : List Byte) (s : State) : Answer :=
  takeRequest ⟨0x13#8, tag, payload⟩ (withLayout (readReceiverAndNumber payload) handleSetFillLimit) s

end Sys2Proof.Machine
end

