-- ==== Sys2Proof/Machine/Sample.lean ====
section
/-! DEFINITION. Machine/Sample.lean: the commands of the Sample Stream: the published scan (R175, R176), STREAM_CONTROL (R173,
R174) and DRAIN_SAMPLES (R177). -/

namespace Sys2Proof.Machine

/-- The cells of a stream set in ascending order. -/
def cellsOf (set : BitVec 48) : List CellNo := (List.finRange 48).filter fun i => set.getLsbD i.val

/-- R175: the entries a scan writes, one for each cell of the stream set, in ascending cell order. -/
def sampleEntries (set : BitVec 48) (x : Scan) : List SampleEntry :=
  (cellsOf set).map fun i => ⟨x.sequence, i, x.cells[i].mark, x.cells[i].value⟩

/-- R176: the threshold test after a scan whose entries were appended. -/
def State.testThreshold (sequence : Nat) (s : State) : State :=
  let m := s.sample
  if m.armed && m.threshold < m.fifo.length then
    (s.setSample { m with armed := false }).raise (.sampleThreshold sequence m.fifo.length m.threshold)
  else s

/-- R175: the Sample Stream takes a published scan. -/
def State.writeScan (x : Scan) (s : State) : State :=
  let m := s.sample
  let entries := sampleEntries m.set x
  if !m.enable || entries.isEmpty then s
  else if m.fifo.length + entries.length ≤ Config.sampleFifoSize then
    (s.setSample { m with fifo := m.fifo ++ entries }).testThreshold x.sequence
  else s.setFlag .sampleOverflow

/-- SAMPLE_SCAN_WRITE. -/
def execSampleScanWrite (s : State) : Answer := takeScan .sampleStream State.writeScan s

/-- R174: a flush. -/
def SampleStream.flush (m : SampleStream) : SampleStream := { m with fifo := [], armed := true }

/-- R173: steps 1 to 3 of an accepted STREAM_CONTROL. -/
def SampleStream.control (o : StreamOperands) (m : SampleStream) : SampleStream :=
  let m := if o.flush then m.flush else m
  { m with set := o.set, enable := o.enable, threshold := o.threshold, armed := m.fifo.length ≤ o.threshold }

/-- R173: the STREAM_CONTROL reply's fields. -/
def SampleStream.controlBytes (m : SampleStream) : List Byte :=
  leBytes 6 m.set.toNat ++ indicator m.enable ++ leBytes 2 m.threshold ++ leBytes 2 m.fifo.length

/-- R173: STREAM_CONTROL. -/
def handleStream (o : StreamOperands) (s : State) : State × Reply :=
  if o.threshold < 1 || 4095 < o.threshold then s.refuse .outOfRange
  else (s.setSample (s.sample.control o), ⟨.done, (s.sample.control o).controlBytes⟩)

/-- R177: the stream after the removal of its oldest entries. -/
def SampleStream.drain (most : Nat) (m : SampleStream) : SampleStream :=
  let left := m.fifo.drop most
  { m with fifo := left, armed := m.armed || left.length ≤ m.threshold }

/-- R177: DRAIN_SAMPLES. -/
def handleDrain (most : Nat) (s : State) : State × Reply :=
  if most < 1 || 64 < most then s.refuse .outOfRange
  else
    match s.sample.fifo with
    | [] => (s.setFlag .sampleUnderflow, ⟨.done, leBytes 1 0 ++ leBytes 2 0⟩)
    | x :: rest =>
      let taken := (x :: rest).take most
      let m := s.sample.drain most
      (s.setSample m,
        ⟨.done, leBytes 1 taken.length ++ leBytes 2 m.fifo.length ++ taken.flatMap SampleEntry.bytes⟩)

/-- STREAM_CONTROL (38h). -/
def execStreamControl (tag : Byte) (payload : List Byte) (s : State) : Answer :=
  takeRequest ⟨0x38#8, tag, payload⟩ (withLayout (readStream payload) handleStream) s

/-- DRAIN_SAMPLES (39h). -/
def execDrainSamples (tag : Byte) (payload : List Byte) (s : State) : Answer :=
  takeRequest ⟨0x39#8, tag, payload⟩ (withLayout (readMaximum payload) handleDrain) s

end Sys2Proof.Machine
end

