-- ==== Sys2Proof/Machine/Scanner.lean ====
section
/-! DEFINITION. Machine/Scanner.lean: the commands of the Probe Scanner: the scan tick (R150, R151), the slot reads (R154 to
R156, R159), the publication (R160 to R165) and the scanner requests (R152, R153, R157, R158, R163, R166 to R168). -/

namespace Sys2Proof.Machine

/-- The slots in number order. -/
def allSlots : List SlotNo := [0, 1, 2, 3, 4, 5, 6, 7, 8, 9, 10, 11]

/-! ## Publication -/

/-- R161: a cell's mark at a published scan. -/
def markOf (settling refreshed : Bool) : Mark :=
  if settling then .unsettled else if refreshed then .fresh else .heldFromMiss

/-- R160, R161: the cells as the scan publishes them. -/
def Scanner.publishedCells (c : Scanner) : Vector PublishedCell 48 :=
  Vector.ofFn fun i : CellNo => ⟨c.working[i].value, markOf (0 < c.settlingRemaining) c.working[i].refreshed⟩

/-- R164: the reading of a role that has been VALID, at a hold count. -/
def RoleRecord.carried (holdLimit holdCount : Nat) (r : RoleRecord) : RoleReading :=
  if holdCount ≤ holdLimit then ⟨.held, r.lastValid⟩ else ⟨.lost, 0⟩

/-- R164: a role's reading at a published scan and its record afterwards; the rows in order. -/
def RoleRecord.judge (holdLimit : Nat) (cells : Vector PublishedCell 48) (r : RoleRecord) : RoleReading × RoleRecord :=
  match r.binding with
  | none => (⟨.absent, 0⟩, r)
  | some cell =>
    if cells[cell].mark = .fresh then
      (⟨.valid, cells[cell].value⟩,
        { r with hasBeenValid := true, lastValid := cells[cell].value, holdCount := 0 })
    else if !r.hasBeenValid then (⟨.lost, 0⟩, r)
    else if cells[cell].mark = .heldFromMiss then
      let n := min (r.holdCount + 1) 256
      (r.carried holdLimit n, { r with holdCount := n })
    else (r.carried holdLimit r.holdCount, r)

/-- R160: the sequence number after a sequence number. -/
def nextSequenceNumber (n : Nat) : Nat := if n = Config.max16 then 0 else n + 1

/-- R160: the scan that is published with the elapsed ticks `elapsed` at a moment. -/
def Scanner.scan (elapsed moment : Nat) (c : Scanner) : Scan :=
  let cells := c.publishedCells
  { sequence := c.nextSequence, elapsed := elapsed, moment := moment, cells := cells
    roles := Vector.ofFn fun i : RoleNo => (c.roles[i].judge c.holdLimit cells).1 }

/-- R160, R162, R164: the scanner after the publication of a scan. -/
def Scanner.afterPublication (x : Scan) (c : Scanner) : Scanner :=
  { c with
    inProgress := none
    published := some x
    nextSequence := nextSequenceNumber c.nextSequence
    settlingRemaining := c.settlingRemaining - 1
    roles := Vector.ofFn fun i : RoleNo => (c.roles[i].judge c.holdLimit x.cells).2 }

/-- R160: a complete scan published and handed to every consumer. -/
def State.publish (elapsed : Nat) (s : State) : State :=
  let x := s.scanner.scan elapsed s.now
  { s with
    scanner := s.scanner.afterPublication x
    toTake := s.toTake ++ allConsumers.map fun c => (c, x) }

/-! ## Slot reads -/

/-- R154: is a slot read by a scan that comes to it? -/
def Slot.isRead (x : Slot) : Bool := x.enabled && x.status ≠ .failed

/-- R154: the first slot, in ascending order from slot `from`, that the scan reads. -/
def Scanner.slotFrom (first : Nat) (c : Scanner) : Option SlotNo :=
  allSlots.find? fun n => first ≤ n.val && c.slots[n].isRead

/-- R154: a slot's read begun, with the slot's definition taken. -/
def Scanner.readOf (n : SlotNo) (c : Scanner) : SlotRead :=
  let x := c.slots[n]
  { slot := n, address := x.address, firstValue := x.firstValue, count := x.count, allocation := x.allocation
    elapsed := 0 }

/-- R154: the scan goes on at slot `first`, or is complete and is published. -/
def State.continueScan (elapsed first : Nat) (s : State) : State :=
  match s.scanner.slotFrom first with
  | some n => s.setScanner { s.scanner with inProgress := some ⟨elapsed, s.scanner.readOf n⟩ }
  | none => s.publish elapsed

/-- R155: is a probe's reply a good one for a read? -/
def SlotRead.accepts (r : SlotRead) (address : Byte) (values : List (BitVec 32)) (crc : BitVec 16) : Bool :=
  r.elapsed ≤ Config.probeTimeoutTicks && address.toNat = r.address && values.length = r.count
    && crc = crc16 (probeReplyCovered address values)

/-- R159: how many of a read's values are written. -/
def SlotRead.written (r : SlotRead) : Nat :=
  match r.allocation with
  | none => 0
  | some a => min r.count a.granted

/-- R159: the first cell a read writes. -/
def SlotRead.firstCell (r : SlotRead) : Nat := (r.allocation.map (·.first)).getD 0

/-- R159: the working image after a good read. -/
def SlotRead.write (r : SlotRead) (values : List (BitVec 32)) (image : Vector WorkingCell 48) : Vector WorkingCell 48 :=
  Vector.ofFn fun i : CellNo =>
    if r.firstCell ≤ i.val && i.val < r.firstCell + r.written then
      match values[i.val - r.firstCell]? with
      | some v => ⟨v.toInt, true⟩
      | none => image[i]
    else image[i]

/-- R153, R156: does a slot's allocation fall short of its count? -/
def Slot.short (x : Slot) : Bool :=
  match x.allocation with
  | none => true
  | some a => a.granted < x.count

/-- R156: a slot after a good read. -/
def Slot.afterGood (x : Slot) : Slot :=
  { x with misses := 0, status := if x.short then .truncated else .fresh }

/-- R156: a slot after a miss. -/
def Slot.afterMiss (x : Slot) : Slot :=
  { x with misses := x.misses + 1, status := if x.misses < 2 then .missing else .failed }

/-- A slot's record replaced. -/
def State.setSlot (n : SlotNo) (x : Slot) (s : State) : State :=
  s.setScanner { s.scanner with slots := s.scanner.slots.set n x }

/-- R156: a miss counted for a slot, and PROBE_FAILED at the third. DESIGN CHOICE (notes/assumptions/13.md): a slot disabled
while its read was in progress keeps the miss count and status it had when it was disabled. -/
def State.countMiss (n : SlotNo) (s : State) : State :=
  let x := s.scanner.slots[n]
  if x.enabled then
    let t := s.setSlot n x.afterMiss
    if x.afterMiss.status = .failed then t.raise (.probeFailed n x.address s.scanner.nextSequence) else t
  else s

/-- R156: a good read counted for a slot. -/
def State.countGood (n : SlotNo) (s : State) : State :=
  let x := s.scanner.slots[n]
  if x.enabled then s.setSlot n x.afterGood else s

/-- R155, R156: the read in progress ended as a miss; the scan goes on. -/
def State.readMissed (p : ScanInProgress) (s : State) : State :=
  (s.countMiss p.read.slot).continueScan p.elapsed (p.read.slot.val + 1)

/-- R156, R159: the read in progress ended good, its values written; the scan goes on. -/
def State.readGood (p : ScanInProgress) (values : List (BitVec 32)) (s : State) : State :=
  let t := s.setScanner { s.scanner with working := p.read.write values s.scanner.working }
  (t.countGood p.read.slot).continueScan p.elapsed (p.read.slot.val + 1)

/-- R155: a probe's reply; bytes that no read in progress waits for are discarded. -/
def State.takeProbeReply (address : Byte) (values : List (BitVec 32)) (crc : BitVec 16) (s : State) : State :=
  match s.scanner.inProgress with
  | none => s
  | some p => if p.read.accepts address values crc then s.readGood p values else s.readMissed p

/-- PROBE_REPLY. -/
def execProbeReply (address : Byte) (values : List (BitVec 32)) (crc : BitVec 16) (s : State) : Answer :=
  .next (s.takeProbeReply address values crc).settle

/-- R155: the probe timeout of the read in progress passes; with no read in progress it does not come. -/
def State.passProbeTimeout (s : State) : State :=
  match s.scanner.inProgress with
  | none => s
  | some p => s.atDate p.missing fun t => t.readMissed p

/-- PROBE_TIMEOUT. -/
def execProbeTimeout (s : State) : Answer := .next s.passProbeTimeout.settle

/-! ## The scan tick -/

/-- R151: the E of a scan that starts now. -/
def Scanner.elapsedTicks (c : Scanner) : Nat :=
  if c.markedD then c.divisor
  else if c.sinceStart ≤ Config.max32 then c.sinceStart
  else (Config.wideElapsed c.sinceStart).toNat

/-- R154: a scan begins with every cell of the working image not refreshed. -/
def unrefreshed (image : Vector WorkingCell 48) : Vector WorkingCell 48 :=
  Vector.ofFn fun i : CellNo => { image[i] with refreshed := false }

/-- R150, R151, R154: a scan started. -/
def State.startScan (s : State) : State :=
  let c := s.scanner
  (s.setScanner { c with markedD := false, sinceStart := 0, working := unrefreshed c.working }).continueScan
    c.elapsedTicks 0

/-- R150: a scan tick: the countdown reloaded, a scan started or, with one in progress, SCAN_OVERRUN set. -/
def State.tickScan (s : State) : State :=
  let t := s.setScanner { s.scanner with countdown := s.scanner.divisor }
  match s.scanner.inProgress with
  | some _ => t.setFlag .scanOverrun
  | none => t.startScan

/-- SCAN_TICK: the countdown reaches 0. -/
def execScanTick (s : State) : Answer := .next (s.atDate s.scanner.countdown State.tickScan).settle

/-! ## The scanner requests -/

/-- R162: settling started. -/
def Scanner.settle (c : Scanner) : Scanner := { c with settlingRemaining := c.settlingCount }

/-- R152: the divisor stored for a carried value. -/
def storedDivisor (n : Nat) : Nat := max 10 (min n 10000)

/-- R152: an accepted change of the divisor. -/
def Scanner.changeDivisor (d : Nat) (c : Scanner) : Scanner :=
  ({ c with divisor := d, countdown := d, markedD := true }).settle

/-- R152: SET_SCAN_DIVISOR. -/
def handleSetDivisor (n : Nat) (s : State) : State × Reply :=
  let d := storedDivisor n
  let t := if d = s.scanner.divisor then s else s.setScanner (s.scanner.changeDivisor d)
  (t, ⟨if d = n then .done else .clamped, leBytes 4 d⟩)

/-- R157: the cell after the highest cell held by any allocation; cell 0 when none is held. -/
def nextFreeCell (slots : Vector Slot 12) : Nat :=
  slots.toList.foldl
    (fun m x =>
      match x.allocation with
      | none => m
      | some a => max m (a.first + a.granted))
    0

/-- R157: the allocation made at a first cell for a count; none when no cell remains. -/
def allocateAt (first count : Nat) : Option Allocation :=
  if first < 48 then some ⟨first, min count (48 - first)⟩ else none

/-- R158: every slot's allocation made absent. -/
def clearAllocations (slots : Vector Slot 12) : Vector Slot 12 :=
  Vector.ofFn fun i : SlotNo => { slots[i] with allocation := none }

/-- R157: the allocation rule for one slot: an enabled slot without an allocation is given one. -/
def allocateSlot (slots : Vector Slot 12) (n : SlotNo) : Vector Slot 12 :=
  if slots[n].enabled && slots[n].allocation.isNone then
    slots.set n { slots[n] with allocation := allocateAt (nextFreeCell slots) slots[n].count }
  else slots

/-- R153: the status that a write gives a slot. -/
def Slot.written (x : Slot) : Slot :=
  { x with misses := 0, status := if x.enabled && x.short then .truncated else .fresh }

/-- R153: is the carried definition in range? -/
def SlotOperands.inRange (o : SlotOperands) : Bool :=
  1 ≤ o.address && o.address ≤ 31 && 1 ≤ o.count && o.count ≤ 8 && o.firstValue + o.count - 1 ≤ 255

/-- R153: a slot with the carried definition. -/
def SlotOperands.define (o : SlotOperands) (x : Slot) : Slot :=
  { x with enabled := o.enabled, address := o.address, firstValue := o.firstValue, count := o.count }

/-- R153, R157, R158: the slots after a slot's definition is replaced. -/
def rewriteSlot (n : SlotNo) (o : SlotOperands) (slots : Vector Slot 12) : Vector Slot 12 :=
  let slots := slots.set n (o.define slots[n])
  let slots :=
    if slots.toList.all fun x => !x.enabled then clearAllocations slots else allocateSlot slots n
  slots.set n slots[n].written

/-- R153: SET_SCAN_SLOT. -/
def handleSetSlot (o : SlotOperands) (s : State) : State × Reply :=
  match numbered 12 o.slot with
  | none => s.refuse .outOfRange
  | some n =>
    if o.inRange then
      let c := { s.scanner with slots := rewriteSlot n o s.scanner.slots }
      (s.setScanner c.settle, ⟨.done, slotBytes n c.slots[n]⟩)
    else s.refuse .outOfRange

/-- R167, steps 2 to 4: the slots after a SCANNER_RESET. -/
def reallocate (slots : Vector Slot 12) : Vector Slot 12 :=
  let slots := allSlots.foldl allocateSlot (clearAllocations slots)
  Vector.ofFn fun i : SlotNo => slots[i].written

/-- R167: the scanner after a SCANNER_RESET. -/
def Scanner.restart (c : Scanner) : Scanner :=
  ({ c with
      inProgress := none
      slots := reallocate c.slots
      working := Vector.replicate 48 ⟨0, false⟩ }).settle

/-- R167: SCANNER_RESET. -/
def handleScannerReset (s : State) : State × Reply :=
  if s.link.mode ≠ .offline then s.refuse .wrongMode
  else
    let c := s.scanner.restart
    (s.setScanner c, ⟨.done, c.slots.toList.flatMap fun x => allocationBytes x.allocation⟩)

/-- R163: a role's binding replaced; a changed binding starts the record afresh. -/
def RoleRecord.rebind (binding : Option CellNo) (r : RoleRecord) : RoleRecord :=
  if r.binding = binding then r else .afresh binding

/-- R163: the binding a request carries: a cell from 0 to 47, or none to unbind. -/
def bindingOf (cell : Option Nat) : Option (Option CellNo) :=
  match cell with
  | none => some none
  | some n => (numbered 48 n).map some

/-- R163: BIND_SIGNAL. -/
def handleBind (o : RoleNo × Option Nat) (s : State) : State × Reply :=
  if s.link.mode ≠ .offline then s.refuse .wrongMode
  else
    match bindingOf o.2 with
    | none => s.refuse .outOfRange
    | some b =>
      let c := s.scanner
      (s.setScanner { c with roles := c.roles.set o.1 (c.roles[o.1].rebind b) },
        ⟨.done, leBytes 1 o.1.val ++ optional 1 (b.map (·.val))⟩)

/-- R166: SET_SIGNAL_LIMITS. -/
def handleSetSignalLimits (o : Nat × Nat) (s : State) : State × Reply :=
  if s.link.mode ≠ .offline then s.refuse .wrongMode
  else if o.1 < 1 || 255 < o.1 || 1000 < o.2 then s.refuse .outOfRange
  else
    (s.setScanner { s.scanner with holdLimit := o.1, settlingCount := o.2 }, ⟨.done, leBytes 1 o.1 ++ leBytes 2 o.2⟩)

/-- R160, R169: the cells of the published image; 0 and UNSETTLED before the first publication. -/
def State.imageCells (s : State) : List PublishedCell :=
  match s.scanner.published with
  | none => List.replicate 48 ⟨0, .unsettled⟩
  | some x => x.cells.toList

/-- The roles in code order. -/
def allRoles : List RoleNo := [0, 1, 2, 3, 4, 5, 6, 7, 8, 9, 10, 11, 12, 13, 14, 15, 16]

/-- R168: one role of the QUERY_IMAGE reply. -/
def State.roleBytes (s : State) (r : RoleNo) : List Byte :=
  optional 1 ((s.scanner.roles[r]).binding.map (·.val)) ++ leBytes 1 (s.latestReading r).condition.code
    ++ signedBytes 4 (s.latestReading r).value

/-- R168, 11.11: the QUERY_IMAGE reply's fields. -/
def State.imageBytes (s : State) : List Byte :=
  let c := s.scanner
  optional 2 (c.published.map (·.sequence)) ++ leBytes 4 ((c.published.map (·.elapsed)).getD 0)
    ++ s.imageCells.flatMap (fun x => signedBytes 4 x.value ++ leBytes 1 x.mark.code)
    ++ leBytes 2 c.settlingRemaining ++ allSlots.flatMap (fun n => slotBytes n c.slots[n])
    ++ allRoles.flatMap s.roleBytes ++ leBytes 4 c.divisor ++ leBytes 1 c.holdLimit ++ leBytes 2 c.settlingCount

/-- R168: QUERY_IMAGE. -/
def handleQueryImage (s : State) : State × Reply := (s, ⟨.done, s.imageBytes⟩)

/-- SET_SCAN_DIVISOR (30h). -/
def execSetScanDivisor (tag : Byte) (payload : List Byte) (s : State) : Answer :=
  takeRequest ⟨0x30#8, tag, payload⟩ (withLayout (readDivisor payload) handleSetDivisor) s

/-- SET_SCAN_SLOT (31h). -/
def execSetScanSlot (tag : Byte) (payload : List Byte) (s : State) : Answer :=
  takeRequest ⟨0x31#8, tag, payload⟩ (withLayout (readSlot payload) handleSetSlot) s

/-- SCANNER_RESET (32h). -/
def execScannerReset (tag : Byte) (payload : List Byte) (s : State) : Answer :=
  takeRequest ⟨0x32#8, tag, payload⟩ (withLayout (readNothing payload) fun _ => handleScannerReset) s

/-- BIND_SIGNAL (33h). -/
def execBindSignal (tag : Byte) (payload : List Byte) (s : State) : Answer :=
  takeRequest ⟨0x33#8, tag, payload⟩ (withLayout (readBinding payload) handleBind) s

/-- SET_SIGNAL_LIMITS (34h). -/
def execSetSignalLimits (tag : Byte) (payload : List Byte) (s : State) : Answer :=
  takeRequest ⟨0x34#8, tag, payload⟩ (withLayout (readSignalLimits payload) handleSetSignalLimits) s

/-- QUERY_IMAGE (35h). -/
def execQueryImage (tag : Byte) (payload : List Byte) (s : State) : Answer :=
  takeRequest ⟨0x35#8, tag, payload⟩ (withLayout (readNothing payload) fun _ => handleQueryImage) s

end Sys2Proof.Machine
end

