-- ==== Sys2Proof/Machine/LinkCommands.lean ====
section
/-! DEFINITION. Machine/LinkCommands.lean: the commands of the Link block: power-on (R194), the frame receiver (R184, R185),
the transmit line (R188), BAD_KIND (R186), the line modes (R181 to R183), the notice enables (R190), QUERY_STATUS (R191). -/

namespace Sys2Proof.Machine

/-- POWER_ON (R194): every piece of state to its initial value. The model's own queue of commands and its count of choices of
order, which are no state of the part, go on. -/
def execPowerOn (s : State) : Answer := .next { State.reset with pending := s.pending, choices := s.choices }

/-! ## Frames received (R184, R185) -/

/-- R184: the frame receiver set. -/
def State.setRx (x : FrameReceiver) (s : State) : State := s.setLink { s.link with rx := x }

/-- R184: the frame receiver returned to waiting, a frame or a byte discarded with FRAME_ERROR. -/
def State.discardFrame (s : State) : State := (s.setRx .waiting).setFlag .frameError

/-- R185: a complete frame checked: a received request, or discarded. -/
def State.checkFrame (kind tag : Byte) (payload : List Byte) (crc : BitVec 16) (s : State) : State :=
  if Config.payloadMost < payload.length then s.discardFrame
  else if crc = crc16 (covered kind tag payload) then (s.setRx .waiting).receiveRequest ⟨kind, tag, payload⟩
  else s.discardFrame

/-- FRAME_RECEIVED: a whole frame has come in. -/
def execFrameReceived (kind tag : Byte) (payload : List Byte) (crc : BitVec 16) (s : State) : Answer :=
  .next (s.checkFrame kind tag payload crc).settle

/-- R184: a byte received while waiting for a start byte. -/
def State.byteWaiting (b : Byte) (s : State) : State :=
  if b = 0xA5#8 then s.setRx (.inside [] 0) else s.discardFrame

/-- R184: the payload length that the bytes after the start byte announce. -/
def announced (received : List Byte) : Nat := leValue (received.take 2)

/-- R184: a byte taken inside a frame; `received` are the bytes after the start byte, the new one last. -/
def State.byteInside (received : List Byte) (s : State) : State :=
  if received.length < 2 then s.setRx (.inside received 0)
  else if Config.payloadMost < announced received then s.discardFrame
  else if received.length < announced received + 6 then s.setRx (.inside received 0)
  else
    s.checkFrame (received.getD 2 0x00#8) (received.getD 3 0x00#8) ((received.drop 4).take (announced received))
      (BitVec.ofNat 16 (leValue (received.drop (announced received + 4))))

/-- R184: a byte examined by the frame receiver. -/
def State.receiveByte (b : Byte) (s : State) : State :=
  match s.link.rx with
  | .waiting => s.byteWaiting b
  | .inside received gap =>
    if Config.frameGapTicks < gap then s.discardFrame.byteWaiting b else s.byteInside (received ++ [b])

/-- FRAME_BYTE_RECEIVED. -/
def execFrameByteReceived (b : Byte) (s : State) : Answer := .next (s.receiveByte b).settle

/-- R184: the gap after the latest byte passes 5 ms; while waiting it does not come. -/
def State.gapTimeout (s : State) : State :=
  match s.link.rx with
  | .waiting => s
  | .inside _ gap => s.atDate (Config.frameGapTicks + 1 - gap) State.discardFrame

/-- FRAME_GAP_TIMEOUT. -/
def execFrameGapTimeout (s : State) : Answer := .next s.gapTimeout.settle

/-! ## The transmit line (R188) -/

/-- R188: the frame being sent ends, and the line is free; with none being sent nothing ends. -/
def State.endSending (s : State) : State :=
  match s.link.sending with
  | none => s
  | some x => s.atDate x.missing fun t => t.setLink { t.link with sending := none }

/-- TRANSMIT_COMPLETE; the Link block then chooses the next frame. -/
def execTransmitComplete (s : State) : Answer := .next s.endSending.settle

/-! ## BAD_KIND (R186, R187) -/

/-- R187: a BAD_KIND reply. -/
def badKindFrame (kind tag : Byte) : TxFrame :=
  { kind := 0xFF#8, tag := tag, payload := [BitVec.ofNat 8 Status.badKind.code, kind] }

/-- BAD_KIND. A kind that does name a request makes no BAD_KIND; such a request waits in the request queue. -/
def execBadKind (kind tag : Byte) (payload : List Byte) (s : State) : Answer :=
  if !namesRequest kind && s.turnOf ⟨kind, tag, payload⟩ then
    .next (s.takeFromQueue.answerWith (badKindFrame kind tag)).settle
  else .next (s.receiveRequest ⟨kind, tag, payload⟩).settle

/-! ## The line modes (R181 to R183) -/

/-- R181: is a role required of a line that goes online? Stations' roles are, unless the station is LOCKED. -/
def State.required (s : State) (r : RoleNo) : Bool :=
  if r.val < 12 then (s.station ⟨r.val % 4, by omega⟩).state ≠ .locked else true

/-- R181: the required roles that are unbound. -/
def State.unboundRoles (s : State) : List Bool :=
  allRoles.map fun r => s.required r && (s.scanner.roles[r]).binding.isNone

/-- R181: the required roles that were not VALID at the latest published scan. -/
def State.unreadyRoles (s : State) : List Bool :=
  allRoles.map fun r => s.required r && (s.latestReading r).condition ≠ .valid

/-- R181: an accepted GO_ONLINE. -/
def State.goOnline (s : State) : State :=
  (s.setLink { s.link with mode := .running }).arbiterPass.noteStations s.stations

/-- R181: GO_ONLINE. -/
def handleGoOnline (s : State) : State × Reply :=
  match s.link.mode with
  | .tripped => s.refuse .wrongMode
  | .running => s.refuse .ignored
  | .offline =>
    if s.protection.causes.requestedTrip then s.refuse .notClear
    else if s.unboundRoles.any id then (s, ⟨.missingBinding, leBytes 3 (maskOf s.unboundRoles)⟩)
    else if s.unreadyRoles.any id then (s, ⟨.notReady, leBytes 3 (maskOf s.unreadyRoles)⟩)
    else (s.goOnline, .bare .done)

/-- R182: a station in which no work is in flight. -/
def StationState.atRest (x : StationState) : Bool :=
  match x with
  | .idle | .faulted | .locked => true
  | _ => false

/-- R182: does work stand in the way of going offline? -/
def State.workInFlight (s : State) : Bool :=
  (s.tracker.units.any fun u => u.state ≠ .closed) || s.chamber.standing ≠ .stopped
    || (allStations.any fun i => !(s.station i).state.atRest)

/-- R182: GO_OFFLINE. -/
def handleGoOffline (s : State) : State × Reply :=
  match s.link.mode with
  | .tripped => s.refuse .wrongMode
  | .offline => s.refuse .ignored
  | .running =>
    if s.workInFlight then s.refuse .wrongState
    else (s.setLink { s.link with mode := .offline }, .bare .done)

/-- R28: the Unit Tracker after a LINE_RESTART. -/
def Tracker.restart (t : Tracker) : Tracker :=
  { t with units := t.units.filter fun u => u.state = .closed, degasQueue := [], shredQueue := [] }

/-- R28, R132: the records that a LINE_RESTART frees. -/
def Tracker.abandoned (t : Tracker) : Nat := (t.units.filter fun u => u.state ≠ .closed).length

/-- R60: a station after a LINE_RESTART. -/
def Station.restart (st : Station) : Station :=
  { st with
    state := if st.state = .locked then .locked else .idle
    unit := none, family := none, causes := .empty, latch := none }

/-- R104: the chamber after a LINE_RESTART. -/
def Chamber.restart (c : Chamber) : Chamber :=
  { c with
    standing := .stopped, stopPending := false, startPending := false, history := [], counter := 0, baseline := 0
    baselineHigh := false, lastMismatch := none }

/-- R179: the Sample Stream after a LINE_RESTART. -/
def SampleStream.restart (m : SampleStream) : SampleStream := { m.flush with set := 0#48, enable := false }

/-- R183: LINE_RESTART, each block by its own rule (R28, R60, R73, R104, R135, R149, R170, R179). -/
def State.lineRestart (s : State) : State :=
  let t : State :=
    { s with
      link := { s.link with mode := .offline }
      tracker := s.tracker.restart
      stations := Vector.ofFn fun i : StationNo => (s.station i).restart
      chamber := s.chamber.restart
      shift := { s.shift with abandoned := s.shift.abandoned + s.tracker.abandoned }
      protection := { s.protection with causes := .empty, clearHold := none }
      sample := s.sample.restart }
  t.noteStations s.stations

/-- R183: LINE_RESTART. -/
def handleLineRestart (s : State) : State × Reply := (s.lineRestart, .bare .done)

/-! ## The notice enables and QUERY_STATUS -/

/-- R190: SET_NOTICE_ENABLES. -/
def handleSetEnables (e : BitVec 13) (s : State) : State × Reply :=
  (s.setLink { s.link with enables := e }, ⟨.done, leBytes 2 e.toNat⟩)

/-- 11.8: the unit states in code order. -/
def unitStates : List UnitState := [.admitted, .assigned, .degassing, .degassed, .shredQueued, .inCharge, .closed]

/-- R191: the records held in a unit state. -/
def Tracker.countIn (x : UnitState) (t : Tracker) : Nat := (t.units.filter fun u => u.state = x).length

/-- 11.8: a station's fields in the QUERY_STATUS reply. -/
def Station.statusBytes (st : Station) : List Byte :=
  leBytes 1 st.state.code ++ optional 4 st.unit ++ optional 1 (st.latch.map FaultLatch.code)

/-- R191, 11.8: the QUERY_STATUS reply's fields. -/
def State.statusBytes (s : State) : List Byte :=
  leBytes 1 s.link.mode.code ++ leBytes 1 s.protection.causes.mask
    ++ allStations.flatMap (fun i => (s.station i).statusBytes)
    ++ leBytes 1 s.receiverF.standing.name.code ++ leBytes 1 s.receiverH.standing.name.code
    ++ leBytes 1 s.chamber.standing.code ++ optional 1 (s.chamber.standing.phase.map Phase.code)
    ++ leBytes 1 s.tracker.units.length ++ unitStates.flatMap (fun x => leBytes 1 (s.tracker.countIn x))
    ++ leBytes 1 s.tracker.degasQueue.length ++ leBytes 1 s.tracker.shredQueue.length
    ++ leBytes 1 s.tracker.closedList.length ++ leBytes 2 s.sample.fifo.length
    ++ leBytes 2 s.scanner.settlingRemaining
    ++ allRoles.flatMap (fun r => leBytes 1 (s.latestReading r).condition.code)
    ++ leBytes 1 s.link.notices.length ++ leBytes 1 s.link.requests.length ++ leBytes 2 s.link.enables.toNat
    ++ leBytes 1 s.link.flags.mask

/-- R191, R192: QUERY_STATUS reports and then clears the five flags. -/
def handleQueryStatus (s : State) : State × Reply :=
  (s.setLink { s.link with flags := .clear }, ⟨.done, s.statusBytes⟩)

/-- SET_NOTICE_ENABLES (3Bh). -/
def execSetNoticeEnables (tag : Byte) (payload : List Byte) (s : State) : Answer :=
  takeRequest ⟨0x3B#8, tag, payload⟩ (withLayout (readEnables payload) handleSetEnables) s

/-- GO_ONLINE (3Ch). -/
def execGoOnline (tag : Byte) (payload : List Byte) (s : State) : Answer :=
  takeRequest ⟨0x3C#8, tag, payload⟩ (withLayout (readNothing payload) fun _ => handleGoOnline) s

/-- GO_OFFLINE (3Dh). -/
def execGoOffline (tag : Byte) (payload : List Byte) (s : State) : Answer :=
  takeRequest ⟨0x3D#8, tag, payload⟩ (withLayout (readNothing payload) fun _ => handleGoOffline) s

/-- LINE_RESTART (3Eh). -/
def execLineRestart (tag : Byte) (payload : List Byte) (s : State) : Answer :=
  takeRequest ⟨0x3E#8, tag, payload⟩ (withLayout (readNothing payload) fun _ => handleLineRestart) s

/-- QUERY_STATUS (3Fh). -/
def execQueryStatus (tag : Byte) (payload : List Byte) (s : State) : Answer :=
  takeRequest ⟨0x3F#8, tag, payload⟩ (withLayout (readNothing payload) fun _ => handleQueryStatus) s

end Sys2Proof.Machine
end

