-- ==== Sys2Proof/Machine/Stations.lean ====
section
/-! DEFINITION. Machine/Stations.lean: the commands of the degassing stations: the published scan (R32 to R34, R37, R39, R41,
R48, R49), the stations' timers (R35, R38 to R40, R47) and the station requests (R43, R44, R51 to R55, R58). -/

namespace Sys2Proof.Machine

/-! ## A published scan at a station -/

/-- R32: a change of the presence value at a scan. -/
inductive PresenceChange where
  | rise
  | fall
  | unchanged
  deriving DecidableEq, Repr

/-- R32: the presence value at a scan, when the role is VALID or HELD. -/
def presenceAt (i : StationNo) (x : Scan) : Option Bool :=
  let r := x.role (roleStationPresence i)
  if r.condition.usable then some (r.value ≠ 0) else none

/-- R32: the change of presence that a scan carries for a station. -/
def Station.presenceChange (i : StationNo) (x : Scan) (st : Station) : PresenceChange :=
  match st.lastSeen, presenceAt i x with
  | some false, some true => .rise
  | some true, some false => .fall
  | _, _ => .unchanged

/-- R32: the last seen presence after a scan. -/
def Station.seePresence (i : StationNo) (x : Scan) (st : Station) : Station :=
  match presenceAt i x with
  | none => st
  | some b => { st with lastSeen := some b }

/-- The pressure value used at a scan (R108; R109 gives it no range). -/
def pressureAt (i : StationNo) (x : Scan) : Int := (x.role (roleStationPressure i)).value

/-- R109, R110: the flow value used at a scan, after clamp and dead band. -/
def flowAt (i : StationNo) (deadBand : Nat) (x : Scan) : Nat :=
  let f := clampTo stationFlowMost (x.role (roleStationFlow i)).value
  if f < deadBand then 0 else f

/-- R49: is a role of the station LOST at a scan? -/
def signalLostAt (i : StationNo) (x : Scan) : Bool :=
  (x.role (roleStationFlow i)).condition = .lost || (x.role (roleStationPressure i)).condition = .lost
    || (x.role (roleStationPresence i)).condition = .lost

/-- R33, steps 1 to 5: a cycle begun. -/
def Station.beginCycle (now : Nat) (pressure : Int) (st : Station) : Station :=
  { st with
    state := .piercing, cycleStart := now, phaseTimer := 0, evacElapsed := 0, suspElapsed := 0, reevacuations := 0
    traceCount := 0, accumulator := 0, lastRise := none, trace := [], latestPressure := pressure }

/-- R49: the signal-loss rule: the anomaly, the latch if it is absent, and RELEASING. -/
def State.loseSignal (i : StationNo) (s : State) : State :=
  let s := s.reportFrom (s.station i).unit .stationSignalLost
  let st := s.station i
  s.setStation i { st.toReleasing with latch := st.latch.orElse fun _ => some .signalLost }

/-- R33: the arrival of the assigned appliance; the signal-loss rule follows at the same scan when a role is LOST there. -/
def State.arrive (i : StationNo) (x : Scan) (s : State) : State :=
  let s := s.setStation i ((s.station i).beginCycle s.now (pressureAt i x))
  let s := match (s.station i).unit with
    | none => s
    | some tag => s.reportCycleStart tag
  if signalLostAt i x then s.loseSignal i else s

/-- R10, R41: the removal of the degassed appliance; the unit joins the Shred Queue (dropped by R14 in another state). -/
def State.unitRemoved (tag : Nat) (s : State) : State :=
  match s.findUnit tag with
  | none => s
  | some u =>
    if u.state = .degassed then
      (s.modifyUnit tag fun u => { u with state := .shredQueued, station := none }).joinShredQueue tag
    else s

/-- R11, steps 2 to 4: a pulled unit's result stored unless one is present; the unit joins the Shred Queue. -/
def State.unitPulled (tag : Nat) (d : DegasResult) (s : State) : State :=
  match s.findUnit tag with
  | none => s
  | some u =>
    if u.state = .degassing then
      (s.modifyUnit tag fun u =>
        { u with degas := u.degas.orElse fun _ => some d, state := .shredQueued, station := none }).joinShredQueue tag
    else s

/-- R41: a presence fall in UNLOADING. -/
def State.removeAppliance (i : StationNo) (s : State) : State :=
  let s := match (s.station i).unit with
    | none => s
    | some tag => s.unitRemoved tag
  let st := s.station i
  if st.latch.isNone then
    (s.setStation i { st with state := .idle, unit := none, family := none }).arbiterPass
  else s.setStation i { st with state := .faulted, unit := none, family := none }

/-- R48: a pull. -/
def State.pull (i : StationNo) (s : State) : State :=
  let s := s.reportFrom (s.station i).unit .pulled
  let s := match (s.station i).unit with
    | none => s
    | some tag => s.unitPulled tag ((s.station i).result i s.now)
  let st := s.station i
  s.setStation i
    { st with
      state := .faulted, unit := none, family := none, causes := .empty
      latch := st.latch.orElse fun _ => some .pulled }

/-- R62: an increment added to the delivered total of a receiver's current cylinder. -/
def ReceiverStanding.deliver (increment : Nat) (x : ReceiverStanding) : ReceiverStanding :=
  match x with
  | .inUse c => .inUse { c with delivered := addTo64 c.delivered increment }
  | .full c => .full { c with delivered := addTo64 c.delivered increment }
  | .swapping => .swapping

/-- R62: an increment handed to the receiver of a family. -/
def State.deliver (family : Option Family) (increment : Nat) (s : State) : State :=
  match family with
  | none => s
  | some f => s.setReceiver f { s.receiver f with standing := (s.receiver f).standing.deliver increment }

/-- R112: the station increment in ng. -/
def stationIncrement (flow elapsed : Nat) : Nat := flow * elapsed * 100

/-- R57: a trace entry written; the oldest is discarded when 32 are held. -/
def pushTrace (x : TraceEntry) (ring : List TraceEntry) : List TraceEntry :=
  if ring.length < Config.traceRingSize then ring ++ [x] else ring.drop 1 ++ [x]

/-- R37, step 3: the trace scan count and, at the interval, a trace entry. -/
def Station.sampleTrace (interval now flow : Nat) (st : Station) : Station :=
  if interval ≤ st.traceCount + 1 then
    { st with
      traceCount := 0
      trace := pushTrace ⟨cycleTenths st.cycleStart now, st.latestPressure, flow⟩ st.trace }
  else { st with traceCount := st.traceCount + 1 }

/-- R37, step 4: the vacuum test. -/
def Station.testVacuum (target : Nat) (st : Station) : Station :=
  if st.latestPressure ≤ (target : Int) then
    { st with state := .holding, holdStart := st.latestPressure, phaseTimer := 0 }
  else st

/-- R37: a scan in EVACUATING. -/
def State.evacuate (i : StationNo) (x : Scan) (s : State) : State :=
  let flow := flowAt i s.deadBand x
  let increment := stationIncrement flow x.elapsed
  let st := s.station i
  let st := { st with accumulator := addTo64 st.accumulator increment, latestPressure := pressureAt i x }
  let st := (st.sampleTrace s.timing.traceInterval s.now flow).testVacuum s.timing.vacuumTarget
  (s.setStation i st).deliver st.family increment

/-- R37, R39, R49: what a station does at a scan that carries no change of presence. -/
def State.runCycle (i : StationNo) (x : Scan) (s : State) : State :=
  let st := s.station i
  match st.state with
  | .piercing | .suspended | .holding =>
    if signalLostAt i x then s.loseSignal i
    else s.setStation i { st with latestPressure := pressureAt i x }
  | .evacuating => if signalLostAt i x then s.loseSignal i else s.evacuate i x
  | _ => s

/-- R33, R34: a presence rise. -/
def State.presenceRise (i : StationNo) (x : Scan) (s : State) : State :=
  match (s.station i).state with
  | .assigned => s.arrive i x
  | .idle | .faulted | .locked => s.raise (.strayUnit i (s.station i).state)
  | _ => s.runCycle i x

/-- R48, R49: a presence fall in PIERCING to HOLDING is a pull. When another role is LOST at the same scan the signal-loss rule
acts too, before the pull or not at all, as the free value says (notes/assumptions/18.md): a FAULTED station has no cycle to end.
DESIGN CHOICE (notes/assumptions/29.md): with no role LOST the pull comes at once, and the same scan's R37, R39 and R49 work
(integration, trace, latest pressure) is not done. -/
def State.fallInCycle (i : StationNo) (x : Scan) (s : State) : State :=
  if signalLostAt i x && Config.lossBeforePull x.moment then (s.loseSignal i).pull i else s.pull i

/-- R34, R41, R48: a presence fall. DESIGN CHOICE (notes/assumptions/29.md): in a cycle it is a pull at once, before any other
work of the same scan. -/
def State.presenceFall (i : StationNo) (x : Scan) (s : State) : State :=
  match (s.station i).state with
  | .unloading => s.removeAppliance i
  | .piercing | .evacuating | .suspended | .holding => s.fallInCycle i x
  | .releasing => s.pull i
  | _ => s

/-- R32: a station takes a published scan. -/
def State.stationScan (i : StationNo) (x : Scan) (s : State) : State :=
  let before := s.stations
  let change := (s.station i).presenceChange i x
  let s := s.setStation i ((s.station i).seePresence i x)
  let s := match change with
    | .rise => s.presenceRise i x
    | .fall => s.presenceFall i x
    | .unchanged => s.runCycle i x
  s.noteStations before

/-- STATION_SCAN. -/
def execStationScan (i : StationNo) (s : State) : Answer := takeScan (.station i) (fun x t => t.stationScan i x) s

/-! ## The stations' timers -/

/-- A timed end at a station in the state it belongs to: its moment comes, it acts, and STATION_STATE follows. In another
state the event does not come (R56). -/
def State.timedEnd (i : StationNo) (x : StationState) (act : State → State) (s : State) : State :=
  if (s.station i).state = x then
    s.atDate (s.stationDue x - (s.station i).timer) fun t => (act t).noteStations t.stations
  else s

/-- R35: the end of the pierce time. -/
def State.pierceEnd (i : StationNo) (s : State) : State :=
  if (s.station i).latestPressure ≤ (s.timing.emptyThreshold : Int) then s.releaseWith i .emptyCircuit
  else (s.setStation i { s.station i with evacElapsed := 0 }).entryCheck i

/-- R39: the end of the hold time. -/
def State.holdEnd (i : StationNo) (s : State) : State :=
  let st := s.station i
  let rise := st.latestPressure - st.holdStart
  let s := s.setStation i { st with lastRise := some rise }
  if (s.timing.riseLimit : Int) < rise then
    if st.reevacuations < 2 then
      (s.setStation i { s.station i with reevacuations := st.reevacuations + 1, evacElapsed := 0 }).entryCheck i
    else s.releaseWith i .residualRise
  else s.setStation i (s.station i).toReleasing

/-- R40: the end of the release time. -/
def State.releaseEnd (i : StationNo) (s : State) : State :=
  let st := s.station i
  let s := match st.unit with
    | none => s
    | some tag => s.handResult tag (st.result i s.now)
  s.setStation i { s.station i with state := .unloading }

/-- PIERCE_TIME_END. -/
def execPierceTimeEnd (i : StationNo) (s : State) : Answer :=
  .next (s.timedEnd i .piercing fun t => t.pierceEnd i).settle

/-- EVACUATION_LIMIT_EXPIRY (R38). -/
def execEvacuationLimitExpiry (i : StationNo) (s : State) : Answer :=
  .next (s.timedEnd i .evacuating fun t => t.releaseWith i .vacuumNotReached).settle

/-- HOLD_TIME_END. -/
def execHoldTimeEnd (i : StationNo) (s : State) : Answer :=
  .next (s.timedEnd i .holding fun t => t.holdEnd i).settle

/-- RELEASE_TIME_END. -/
def execReleaseTimeEnd (i : StationNo) (s : State) : Answer :=
  .next (s.timedEnd i .releasing fun t => t.releaseEnd i).settle

/-- SUSPEND_LIMIT_EXPIRY (R47). -/
def execSuspendLimitExpiry (i : StationNo) (s : State) : Answer :=
  .next (s.timedEnd i .suspended fun t => t.releaseWith i .suspendExpired).settle

/-! ## The station requests -/

/-- 2.10: a request that names a station; a number above 3 is refused before anything else. -/
def onStation (n : Nat) (handle : StationNo → State → State × Reply) (s : State) : State × Reply :=
  match numbered 4 n with
  | none => s.refuse .outOfRange
  | some i => handle i s

/-- A change of station states answered DONE, with its STATION_STATE notices. -/
def doneWith (before t : State) : State × Reply := (t.noteStations before.stations, .bare .done)

/-- R43: SUSPEND_STATION. -/
def handleSuspend (i : StationNo) (s : State) : State × Reply :=
  if s.link.mode = .offline then s.refuse .ignored
  else
    let st := s.station i
    match st.state with
    | .evacuating => doneWith s (s.setStation i (st.suspendFor .ofRequested))
    | .suspended =>
      if st.causes.requested then s.refuse .ignored
      else doneWith s (s.setStation i { st with causes := st.causes.union .ofRequested })
    | _ => s.refuse .ignored

/-- R44: RESUME_STATION. -/
def handleResume (i : StationNo) (s : State) : State × Reply :=
  match s.link.mode with
  | .tripped => s.refuse .wrongMode
  | .offline => s.refuse .ignored
  | .running =>
    if (s.station i).causes.requested then doneWith s (s.removeCause .ofRequested i) else s.refuse .ignored

/-- R51: ABORT_STATION. -/
def handleAbort (i : StationNo) (s : State) : State × Reply :=
  match (s.station i).state with
  | .piercing | .evacuating | .suspended | .holding => doneWith s (s.releaseWith i .aborted)
  | _ => s.refuse .wrongState

/-- R52: LOCK_STATION. -/
def handleLock (i : StationNo) (s : State) : State × Reply :=
  match (s.station i).state with
  | .idle | .faulted => doneWith s (s.setStation i { s.station i with state := .locked })
  | .locked => s.refuse .ignored
  | _ => s.refuse .wrongState

/-- R53, R54: a station returned to service: its latch cleared, IDLE, and the arbiter's pass. -/
def State.returnToService (i : StationNo) (s : State) : State :=
  (s.setStation i { s.station i with state := .idle, latch := none }).arbiterPass

/-- R53: is each of the station's three roles bound? -/
def State.stationBound (s : State) (i : StationNo) : Bool :=
  [roleStationFlow i, roleStationPressure i, roleStationPresence i].all fun r => (s.scanner.roles[r]).binding.isSome

/-- R53: UNLOCK_STATION. -/
def handleUnlock (i : StationNo) (s : State) : State × Reply :=
  if (s.station i).state = .locked then
    if s.link.mode ≠ .offline && !s.stationBound i then s.refuse .missingBinding
    else doneWith s (s.returnToService i)
  else s.refuse .wrongState

/-- R54: RESET_STATION. -/
def handleReset (i : StationNo) (s : State) : State × Reply :=
  if (s.station i).state = .faulted then doneWith s (s.returnToService i) else s.refuse .wrongState

/-- R55: are all the station settings in range? -/
def StationTiming.inRange (t : StationTiming) : Bool :=
  5 ≤ t.pierceTime && t.pierceTime ≤ 100 && 100 ≤ t.emptyThreshold && t.emptyThreshold ≤ 3000
    && 1 ≤ t.vacuumTarget && t.vacuumTarget ≤ 500 && t.vacuumTarget < t.emptyThreshold
    && 10 ≤ t.evacLimit && t.evacLimit ≤ 3600 && 5 ≤ t.holdTime && t.holdTime ≤ 600
    && 1 ≤ t.riseLimit && t.riseLimit ≤ 500 && 10 ≤ t.suspendLimit && t.suspendLimit ≤ 3600
    && 1 ≤ t.traceInterval && t.traceInterval ≤ 255

/-- 11.10: the station settings as SET_STATION_TIMING carries them. -/
def StationTiming.bytes (t : StationTiming) : List Byte :=
  leBytes 2 t.pierceTime ++ leBytes 2 t.emptyThreshold ++ leBytes 2 t.vacuumTarget ++ leBytes 2 t.evacLimit
    ++ leBytes 2 t.holdTime ++ leBytes 2 t.riseLimit ++ leBytes 2 t.suspendLimit ++ leBytes 1 t.traceInterval

/-- R55: SET_STATION_TIMING. -/
def handleSetTiming (t : StationTiming) (s : State) : State × Reply :=
  if s.link.mode ≠ .offline then s.refuse .wrongMode
  else if !t.inRange then s.refuse .outOfRange
  else ({ s with timing := t }, ⟨.done, t.bytes⟩)

/-- R58: `count` entries of a ring from a start index, wrapping, each with its index. -/
def traceEntries (ring : List TraceEntry) (start count : Nat) : List Byte :=
  (List.range count).flatMap fun k =>
    let index := (start + k) % ring.length
    match ring[index]? with
    | none => []
    | some x => traceBytes index x

/-- R58: READ_TRACE. -/
def handleReadTrace (o : Nat × Nat × Nat) (s : State) : State × Reply :=
  match numbered 4 o.1 with
  | none => s.refuse .outOfRange
  | some i =>
    let ring := (s.station i).trace
    if 32 < o.2.2 then s.refuse .outOfRange
    else if ring.length = 0 then (s, ⟨.done, leBytes 1 0 ++ leBytes 1 0⟩)
    else if ring.length ≤ o.2.1 then s.refuse .outOfRange
    else (s, ⟨.done, leBytes 1 ring.length ++ leBytes 1 o.2.2 ++ traceEntries ring o.2.1 o.2.2⟩)

/-- SUSPEND_STATION (08h). -/
def execSuspendStation (tag : Byte) (payload : List Byte) (s : State) : Answer :=
  takeRequest ⟨0x08#8, tag, payload⟩ (withLayout (readStation payload) fun n => onStation n handleSuspend) s

/-- RESUME_STATION (09h). -/
def execResumeStation (tag : Byte) (payload : List Byte) (s : State) : Answer :=
  takeRequest ⟨0x09#8, tag, payload⟩ (withLayout (readStation payload) fun n => onStation n handleResume) s

/-- ABORT_STATION (0Ah). -/
def execAbortStation (tag : Byte) (payload : List Byte) (s : State) : Answer :=
  takeRequest ⟨0x0A#8, tag, payload⟩ (withLayout (readStation payload) fun n => onStation n handleAbort) s

/-- LOCK_STATION (0Bh). -/
def execLockStation (tag : Byte) (payload : List Byte) (s : State) : Answer :=
  takeRequest ⟨0x0B#8, tag, payload⟩ (withLayout (readStation payload) fun n => onStation n handleLock) s

/-- UNLOCK_STATION (0Ch). -/
def execUnlockStation (tag : Byte) (payload : List Byte) (s : State) : Answer :=
  takeRequest ⟨0x0C#8, tag, payload⟩ (withLayout (readStation payload) fun n => onStation n handleUnlock) s

/-- RESET_STATION (0Dh). -/
def execResetStation (tag : Byte) (payload : List Byte) (s : State) : Answer :=
  takeRequest ⟨0x0D#8, tag, payload⟩ (withLayout (readStation payload) fun n => onStation n handleReset) s

/-- SET_STATION_TIMING (0Eh). -/
def execSetStationTiming (tag : Byte) (payload : List Byte) (s : State) : Answer :=
  takeRequest ⟨0x0E#8, tag, payload⟩ (withLayout (readTiming payload) handleSetTiming) s

/-- READ_TRACE (0Fh). -/
def execReadTrace (tag : Byte) (payload : List Byte) (s : State) : Answer :=
  takeRequest ⟨0x0F#8, tag, payload⟩ (withLayout (readReadTrace payload) handleReadTrace) s

end Sys2Proof.Machine
end

