-- ==== Sys2Proof/Machine/Tracker.lean ====
section
/-! DEFINITION. Machine/Tracker.lean: the commands of the Unit Tracker: ADMIT_UNIT, WITHDRAW_UNIT, QUERY_UNIT, TAKE_CLOSED
and SET_CLASS_ENTRY (R16, R23 to R26). -/

namespace Sys2Proof.Machine

/-- A present value lies in a range; an absent one passes. -/
def inRangeIfPresent (low high : Nat) (o : Option Nat) : Bool :=
  match o with
  | none => true
  | some n => low ≤ n && n ≤ high

/-- A gas index that names a defined Gas Table entry, or no gas at all. -/
def State.gasDefined (s : State) (o : Option GasIndex) : Bool :=
  match o with
  | none => true
  | some g => (s.gas g).isSome

/-- R23: the record an accepted ADMIT_UNIT creates (R2, R3). -/
def newUnit (o : AdmitOperands) (admission : Nat) (state : UnitState) : UnitRecord :=
  { tag := o.tag, admission := admission, cls := o.cls, nameplate := o.nameplate, foamWeight := o.foamWeight
    state := state, station := none, degas := none, charge := none, share := none, anomalies := [], truncated := false
    severe := false, verdict := none }

/-- R3: the admission counter after an accepted ADMIT_UNIT. -/
def nextAdmission (n : Nat) : Nat := if n = Config.max16 then 1 else n + 1

/-- R23: the record created and placed in its queue. -/
def State.createUnit (o : AdmitOperands) (hasCircuit : Bool) (s : State) : State :=
  let n := s.tracker.admissionCounter
  let u := newUnit o n (if hasCircuit then .admitted else .shredQueued)
  let t := s.setTracker { s.tracker with units := s.tracker.units ++ [u], admissionCounter := nextAdmission n }
  if hasCircuit then t.setTracker { t.tracker with degasQueue := t.tracker.degasQueue ++ [o.tag] }
  else t.joinShredQueue o.tag

/-- R23: ADMIT_UNIT, its checks in order, the record created and the arbiter's pass. -/
def handleAdmit (o : AdmitOperands) (s : State) : State × Reply :=
  if s.link.mode ≠ .running then s.refuse .wrongMode
  else
    match s.classEntry o.cls with
    | none => s.refuse .outOfRange
    | some c =>
      if o.tag = 0 || !s.gasDefined c.circuitGas || !s.gasDefined c.foamGas
          || !inRangeIfPresent 1 2000 o.nameplate || !inRangeIfPresent 1 20000 o.foamWeight then
        s.refuse .outOfRange
      else if (s.findUnit o.tag).isSome then s.refuse .duplicateTag
      else if Config.unitTableSize ≤ s.tracker.units.length then s.refuse .tableFull
      else
        let state : UnitState := if c.circuitGas.isSome then .admitted else .shredQueued
        let t := (s.createUnit o c.circuitGas.isSome).arbiterPass
        (t.noteStations s.stations, ⟨.done, leBytes 2 s.tracker.admissionCounter ++ leBytes 1 state.code⟩)

/-- R24, R42: the station of an ASSIGNED unit takes the release and goes to IDLE, its cause set empty. -/
def Station.release (st : Station) : Station :=
  { st with state := .idle, unit := none, family := none, causes := .empty }

/-- R24: the station that holds the unit a tag names, while ASSIGNED, released. -/
def State.releaseStation (u : UnitRecord) (s : State) : State :=
  match u.station with
  | none => s
  | some i => s.setStation i (s.station i).release

/-- R24: WITHDRAW_UNIT. -/
def handleWithdraw (tag : Nat) (s : State) : State × Reply :=
  match s.findUnit tag with
  | none => s.refuse .notFound
  | some u =>
    match u.state with
    | .admitted =>
      let t := s.setTracker { s.tracker with degasQueue := s.tracker.degasQueue.erase tag }
      (t.freeUnit tag, .bare .done)
    | .assigned =>
      let t := ((s.releaseStation u).freeUnit tag).arbiterPass
      (t.noteStations s.stations, .bare .done)
    | .shredQueued => ((s.freeUnit tag).leaveShredQueue tag, .bare .done)
    | _ => s.refuse .wrongState

/-- R25: QUERY_UNIT. -/
def handleQueryUnit (tag : Nat) (s : State) : State × Reply :=
  match s.findUnit tag with
  | none => s.refuse .notFound
  | some u => (s, ⟨.done, u.bytes⟩)

/-- R26: TAKE_CLOSED returns the records of the first tags of the Closed List, up to eight, and frees them. -/
def handleTakeClosed (s : State) : State × Reply :=
  let tags := s.tracker.closedList.take Config.takeClosedMost
  let records := tags.filterMap fun tag => s.findUnit tag
  let t := s.setTracker
    { s.tracker with
      units := s.tracker.units.filter fun u => u.tag ∉ tags
      closedList := s.tracker.closedList.drop Config.takeClosedMost }
  (t, ⟨.done, leBytes 1 records.length ++ records.flatMap UnitRecord.bytes⟩)

/-- R16: a gas of a class entry: absent means none; an index above 7 or an undefined entry is refused. -/
def State.classGas (s : State) (o : Option Nat) : Option (Option GasIndex) :=
  match o with
  | none => some none
  | some n =>
    match numbered 8 n with
    | none => none
    | some g => if (s.gas g).isSome then some (some g) else none

/-- R15, R16: the entry that a request's five fields make, when they are in range. -/
def State.classEntryOf (s : State) (o : ClassOperands) : Option ClassEntry :=
  match s.classGas o.circuitGas, s.classGas o.foamGas with
  | some circuit, some foam =>
    if o.defaultFoamWeight ≤ 20000 && inRangeIfPresent 0 1000 o.threshold && inRangeIfPresent 0 200000 o.minimumYield then
      some ⟨circuit, foam, o.defaultFoamWeight, o.threshold.getD 900, o.minimumYield.getD 60000⟩
    else none
  | _, _ => none

/-- R16: a Class Table entry replaced as a whole. -/
def State.setClass (n : Fin 32) (e : Option ClassEntry) (s : State) : State :=
  s.setTracker { s.tracker with classes := s.tracker.classes.set n e }

/-- R16: SET_CLASS_ENTRY. -/
def handleSetClass (o : Nat × Option ClassOperands) (s : State) : State × Reply :=
  if s.link.mode ≠ .offline then s.refuse .wrongMode
  else
    match numbered 32 o.1 with
    | none => s.refuse .outOfRange
    | some n =>
      match o.2 with
      | none => (s.setClass n none, ⟨.done, leBytes 1 o.1 ++ classEntryBytes none⟩)
      | some fields =>
        match s.classEntryOf fields with
        | none => s.refuse .outOfRange
        | some e => (s.setClass n (some e), ⟨.done, leBytes 1 o.1 ++ classEntryBytes (some e)⟩)

/-- ADMIT_UNIT (01h). -/
def execAdmitUnit (tag : Byte) (payload : List Byte) (s : State) : Answer :=
  takeRequest ⟨0x01#8, tag, payload⟩ (withLayout (readAdmit payload) handleAdmit) s

/-- WITHDRAW_UNIT (02h). -/
def execWithdrawUnit (tag : Byte) (payload : List Byte) (s : State) : Answer :=
  takeRequest ⟨0x02#8, tag, payload⟩ (withLayout (readUnitTag payload) handleWithdraw) s

/-- QUERY_UNIT (03h). -/
def execQueryUnit (tag : Byte) (payload : List Byte) (s : State) : Answer :=
  takeRequest ⟨0x03#8, tag, payload⟩ (withLayout (readUnitTag payload) handleQueryUnit) s

/-- TAKE_CLOSED (04h). -/
def execTakeClosed (tag : Byte) (payload : List Byte) (s : State) : Answer :=
  takeRequest ⟨0x04#8, tag, payload⟩ (withLayout (readNothing payload) fun _ => handleTakeClosed) s

/-- SET_CLASS_ENTRY (05h). -/
def execSetClassEntry (tag : Byte) (payload : List Byte) (s : State) : Answer :=
  takeRequest ⟨0x05#8, tag, payload⟩ (withLayout (readSetClass payload) handleSetClass) s

end Sys2Proof.Machine
end

