-- ==== Sys2Proof/Machine/Dispatch.lean ====
section
/-! DEFINITION. Machine/Dispatch.lean: the meaning of each command. -/

namespace Sys2Proof.Machine

/-- A command's effect on everything but the queue of waiting commands. -/
def exec (i : Instr) (s : State) : Host.Outcome State Fault Refusal :=
  match i with
  | .powerOn => Sys2Proof.Machine.execPowerOn s
  | .frameReceived kind tag payload crc => Sys2Proof.Machine.execFrameReceived kind tag payload crc s
  | .frameGapTimeout => Sys2Proof.Machine.execFrameGapTimeout s
  | .transmitComplete => Sys2Proof.Machine.execTransmitComplete s
  | .badKind kind tag payload => Sys2Proof.Machine.execBadKind kind tag payload s
  | .admitUnit tag payload => Sys2Proof.Machine.execAdmitUnit tag payload s
  | .withdrawUnit tag payload => Sys2Proof.Machine.execWithdrawUnit tag payload s
  | .queryUnit tag payload => Sys2Proof.Machine.execQueryUnit tag payload s
  | .takeClosed tag payload => Sys2Proof.Machine.execTakeClosed tag payload s
  | .setClassEntry tag payload => Sys2Proof.Machine.execSetClassEntry tag payload s
  | .suspendStation tag payload => Sys2Proof.Machine.execSuspendStation tag payload s
  | .resumeStation tag payload => Sys2Proof.Machine.execResumeStation tag payload s
  | .abortStation tag payload => Sys2Proof.Machine.execAbortStation tag payload s
  | .lockStation tag payload => Sys2Proof.Machine.execLockStation tag payload s
  | .unlockStation tag payload => Sys2Proof.Machine.execUnlockStation tag payload s
  | .resetStation tag payload => Sys2Proof.Machine.execResetStation tag payload s
  | .setStationTiming tag payload => Sys2Proof.Machine.execSetStationTiming tag payload s
  | .readTrace tag payload => Sys2Proof.Machine.execReadTrace tag payload s
  | .beginSwap tag payload => Sys2Proof.Machine.execBeginSwap tag payload s
  | .endSwap tag payload => Sys2Proof.Machine.execEndSwap tag payload s
  | .queryReceiver tag payload => Sys2Proof.Machine.execQueryReceiver tag payload s
  | .setFillLimit tag payload => Sys2Proof.Machine.execSetFillLimit tag payload s
  | .stageChamberSettings tag payload => Sys2Proof.Machine.execStageChamberSettings tag payload s
  | .startChamber tag payload => Sys2Proof.Machine.execStartChamber tag payload s
  | .stopChamber tag payload => Sys2Proof.Machine.execStopChamber tag payload s
  | .setChamberLimits tag payload => Sys2Proof.Machine.execSetChamberLimits tag payload s
  | .readCharge tag payload => Sys2Proof.Machine.execReadCharge tag payload s
  | .queryChamber tag payload => Sys2Proof.Machine.execQueryChamber tag payload s
  | .setGasEntry tag payload => Sys2Proof.Machine.execSetGasEntry tag payload s
  | .setArithmeticLimits tag payload => Sys2Proof.Machine.execSetArithmeticLimits tag payload s
  | .queryArithmetic tag payload => Sys2Proof.Machine.execQueryArithmetic tag payload s
  | .readShift tag payload => Sys2Proof.Machine.execReadShift tag payload s
  | .closeShift tag payload => Sys2Proof.Machine.execCloseShift tag payload s
  | .setProtectionLimits tag payload => Sys2Proof.Machine.execSetProtectionLimits tag payload s
  | .emergencyTrip tag payload => Sys2Proof.Machine.execEmergencyTrip tag payload s
  | .clearTrip tag payload => Sys2Proof.Machine.execClearTrip tag payload s
  | .queryProtection tag payload => Sys2Proof.Machine.execQueryProtection tag payload s
  | .setScanDivisor tag payload => Sys2Proof.Machine.execSetScanDivisor tag payload s
  | .setScanSlot tag payload => Sys2Proof.Machine.execSetScanSlot tag payload s
  | .scannerReset tag payload => Sys2Proof.Machine.execScannerReset tag payload s
  | .bindSignal tag payload => Sys2Proof.Machine.execBindSignal tag payload s
  | .setSignalLimits tag payload => Sys2Proof.Machine.execSetSignalLimits tag payload s
  | .queryImage tag payload => Sys2Proof.Machine.execQueryImage tag payload s
  | .streamControl tag payload => Sys2Proof.Machine.execStreamControl tag payload s
  | .drainSamples tag payload => Sys2Proof.Machine.execDrainSamples tag payload s
  | .setNoticeEnables tag payload => Sys2Proof.Machine.execSetNoticeEnables tag payload s
  | .goOnline tag payload => Sys2Proof.Machine.execGoOnline tag payload s
  | .goOffline tag payload => Sys2Proof.Machine.execGoOffline tag payload s
  | .lineRestart tag payload => Sys2Proof.Machine.execLineRestart tag payload s
  | .queryStatus tag payload => Sys2Proof.Machine.execQueryStatus tag payload s
  | .scanTick => Sys2Proof.Machine.execScanTick s
  | .probeReply address values crc => Sys2Proof.Machine.execProbeReply address values crc s
  | .probeTimeout => Sys2Proof.Machine.execProbeTimeout s
  | .stationScan n => Sys2Proof.Machine.execStationScan n s
  | .pierceTimeEnd n => Sys2Proof.Machine.execPierceTimeEnd n s
  | .evacuationLimitExpiry n => Sys2Proof.Machine.execEvacuationLimitExpiry n s
  | .holdTimeEnd n => Sys2Proof.Machine.execHoldTimeEnd n s
  | .releaseTimeEnd n => Sys2Proof.Machine.execReleaseTimeEnd n s
  | .suspendLimitExpiry n => Sys2Proof.Machine.execSuspendLimitExpiry n s
  | .receiverScan f => Sys2Proof.Machine.execReceiverScan f s
  | .chamberScan => Sys2Proof.Machine.execChamberScan s
  | .inertTimeoutExpiry => Sys2Proof.Machine.execInertTimeoutExpiry s
  | .ventTimeoutExpiry => Sys2Proof.Machine.execVentTimeoutExpiry s
  | .protectionScan => Sys2Proof.Machine.execProtectionScan s
  | .sampleScanWrite => Sys2Proof.Machine.execSampleScanWrite s
  | .frameByteReceived b => Sys2Proof.Machine.execFrameByteReceived b s

end Sys2Proof.Machine
end

