-- ==== Sys2Proof/Machine/Idle.lean ====
section
/-! DEFINITION. Machine/Idle.lean: what the part does of its own accord when no command waits: its own events that stand ready,
one at a time, and otherwise the passing of one tick (8.1). DESIGN CHOICE (notes/assumptions/1.md, notes/assumptions/3.md). -/

namespace Sys2Proof.Machine

/-- The command by which a consumer takes a published scan (R160). -/
def Consumer.command (c : Consumer) : Instr :=
  match c with
  | .station i => .stationScan i
  | .receiver f => .receiverScan f
  | .chamber => .chamberScan
  | .protection => .protectionScan
  | .sampleStream => .sampleScanWrite

/-- R160: the consumers that have a published scan to take. -/
def State.readyScans (s : State) : List Instr :=
  (allConsumers.filter fun c => (scanFor c s.toTake).isSome).map Consumer.command

/-- R186: the request that waits at the head of the request queue, once its turn has come. -/
def State.readyRequest (s : State) : List Instr :=
  match s.link.requests with
  | [] => []
  | r :: _ => if s.turnOf r then [commandOf r.kind r.tag r.payload] else []

/-- R184, R188: the end of the frame being sent, and the end of the gap inside a frame, when they are due. -/
def Link.readyEvents (l : Link) : List Instr :=
  (if l.sending.map Sending.missing = some 0 then [Instr.transmitComplete] else [])
    ++ (if l.rx.missing = some 0 then [Instr.frameGapTimeout] else [])

/-- R150, R155: the probe timeout and the scan tick, when they are due. -/
def Scanner.readyEvents (c : Scanner) : List Instr :=
  (if c.inProgress.map ScanInProgress.missing = some 0 then [Instr.probeTimeout] else [])
    ++ (if c.countdown = 0 then [Instr.scanTick] else [])

/-- The command of a timed end in a station's state. -/
def timedCommand (i : StationNo) (x : StationState) : List Instr :=
  match x with
  | .piercing => [.pierceTimeEnd i]
  | .evacuating => [.evacuationLimitExpiry i]
  | .holding => [.holdTimeEnd i]
  | .releasing => [.releaseTimeEnd i]
  | .suspended => [.suspendLimitExpiry i]
  | _ => []

/-- R35, R38 to R40, R47: a station's timed end, when it is due. -/
def State.readyStation (s : State) (i : StationNo) : List Instr :=
  if s.stationMissing i = some 0 then timedCommand i (s.station i).state else []

/-- The command of the expiry of a wait phase's timeout (R89, R93). -/
def expiryCommand (x : Phase) : List Instr :=
  match x with
  | .inertWait => [.inertTimeoutExpiry]
  | .ventWait => [.ventTimeoutExpiry]
  | _ => []

/-- R89, R93: the expiry of the chamber's wait timeout, when it is due. -/
def Chamber.readyEvents (c : Chamber) : List Instr :=
  match c.standing with
  | .charging x => if c.missing = some 0 then expiryCommand x.phase else []
  | _ => []

/-- The part's own events that stand ready. -/
def State.readyEvents (s : State) : List Instr :=
  s.readyScans ++ s.readyRequest ++ s.link.readyEvents ++ s.scanner.readyEvents ++ allStations.flatMap s.readyStation
    ++ s.chamber.readyEvents

/-- The part with no command waiting: with none of its own events ready a tick passes; with one ready that one comes next;
with several, a free value says which comes next. -/
def State.idle (s : State) : State :=
  match s.readyEvents with
  | [] => (s.elapse 1).settle
  | [i] => { s with pending := [i] }
  | i :: j :: rest =>
    { s with
      pending := [(i :: j :: rest).getD (Config.pick s.choices % (rest.length + 2)) i]
      choices := s.choices + 1 }

end Sys2Proof.Machine
end

