-- ==== Sys2Proof/Safety.lean ====
section
/-! DEFINITION. Safety.lean: what the statements about the part are said in: how a request is answered, and the invariants that
every step keeps. -/

namespace Sys2Proof.Machine

/-! ## Answering a request (R186 to R188) -/

/-- R186: the request is received in its turn: the one before it has been answered, and none waits ahead of it; LINE_RESTART is
not received between two consumers' taking of one published scan (R183, notes/assumptions/27.md). -/
abbrev State.TurnOf (s : State) (r : Request) : Prop :=
  s.link.reply = none ∧ (s.link.requests = [] ∨ s.link.requests.head? = some r)
    ∧ (r.kind = 0x3E#8 → s.scanPartlyTaken = false)

/-- R187: the frame of a reply to a request. -/
def replyFrame (kind tag : Byte) (st : Status) (body : List Byte) : TxFrame :=
  { kind := kind + 0x80#8, tag := tag, payload := BitVec.ofNat 8 st.code :: body }

/-- R188: the reply goes out: its sending begins when the line is free, else it waits for the end of the frame being sent; the
outputs follow the states (R30, R75). Nothing else of the part changes. -/
def State.sends (f : TxFrame) (s : State) : State :=
  { s with
    pins := s.driven
    link :=
      match s.link.sending with
      | none => { s.link with sending := some ⟨f, 0⟩ }
      | some _ => { s.link with reply := some f } }

/-- R188: in `t` the reply is being sent, or is ready behind the frame that was being sent in `s`. -/
abbrev Answered (s t : State) (f : TxFrame) : Prop :=
  match s.link.sending with
  | none => t.link.sending = some ⟨f, 0⟩ ∧ t.link.reply = none
  | some x => t.link.sending = some x ∧ t.link.reply = some f

/-- R187: the statuses that refuse a request, and IGNORED. -/
def Status.refuses (st : Status) : Bool :=
  match st with
  | .done | .staged | .clamped => false
  | _ => true

/-- 11.10: the payload length that each named request's layout requires. -/
def requestLength (kind : Byte) : Option Nat :=
  match kind.toNat with
  | 0x01 => some 11
  | 0x02 | 0x03 => some 4
  | 0x05 => some 16
  | 0x08 | 0x09 | 0x0A | 0x0B | 0x0C | 0x0D => some 1
  | 0x0E => some 15
  | 0x0F => some 3
  | 0x10 | 0x12 => some 1
  | 0x11 | 0x13 => some 5
  | 0x18 => some 14
  | 0x1B => some 7
  | 0x1C => some 2
  | 0x20 => some 25
  | 0x21 => some 4
  | 0x28 => some 5
  | 0x30 => some 4
  | 0x31 => some 5
  | 0x33 | 0x34 => some 3
  | 0x38 => some 10
  | 0x39 => some 1
  | 0x3B => some 2
  | 0x04 | 0x19 | 0x1A | 0x1D | 0x22 | 0x24 | 0x25 | 0x29 | 0x2A | 0x2B | 0x32 | 0x35 | 0x3C | 0x3D | 0x3E | 0x3F => some 0
  | _ => none

/-- R184: bytes received one after the other. -/
def bytesIn (bytes : List Byte) (s : State) : Answer :=
  match bytes with
  | [] => .next s
  | b :: rest =>
    match exec (.frameByteReceived b) s with
    | .next t => bytesIn rest t
    | .fault r => .fault r
    | .refused r => .refused r

/-- R185: FRAME_ERROR set, and nothing else of the flags. -/
def ReadFlags.withFrameError (fl : ReadFlags) : ReadFlags := { fl with frameError := true }

/-- R188: the frame that a free transmit line takes next: the reply that is ready, else the oldest notice. -/
def Link.nextFrame (l : Link) : Option TxFrame :=
  match l.reply with
  | some r => some r
  | none => l.notices.head?.map Notice.frame

/-! ## Fields in a reply (11.2, 11.11) -/

/-- R195: an optional field of `width` bytes at an offset: the presence byte, and the value, or zeros. -/
abbrev hasOptional (body : List Byte) (offset width : Nat) (o : Option Nat) : Prop :=
  field body offset 1 = (if o.isSome then 1 else 0) ∧ field body (offset + 1) width = o.getD 0 % 256 ^ width

/-- R195: a signed field of `width` bytes at an offset, in two's complement. -/
abbrev hasSigned (body : List Byte) (offset width : Nat) (i : Int) : Prop :=
  (field body offset width : Int) = i % ((256 ^ width : Nat) : Int)

/-- R195: an optional signed field. -/
abbrev hasOptionalSigned (body : List Byte) (offset width : Nat) (o : Option Int) : Prop :=
  field body offset 1 = (if o.isSome then 1 else 0) ∧ hasSigned body (offset + 1) width (o.getD 0)

/-- 11.9: the chamber settings block at an offset. -/
abbrev hasSettings (body : List Byte) (offset : Nat) (c : ChamberSettings) : Prop :=
  field body offset 1 = familyCode c.mode ∧ field body (offset + 1) 1 = c.gas.val ∧ field body (offset + 2) 2 = c.b % 65536
    ∧ field body (offset + 4) 1 = c.x % 256 ∧ field body (offset + 5) 4 = c.s % 4294967296
    ∧ field body (offset + 9) 4 = c.e % 4294967296 ∧ field body (offset + 13) 1 = c.k % 256

/-! ## The part's dated events (8.1) -/

/-- The ticks missing to the dated event that a command stands for, while the timer runs; none for every other command. -/
def State.dateOf (i : Instr) (s : State) : Option Nat :=
  match i with
  | .scanTick => some s.scanner.countdown
  | .probeTimeout => s.scanner.inProgress.map ScanInProgress.missing
  | .transmitComplete => s.link.sending.map Sending.missing
  | .frameGapTimeout => s.link.rx.missing
  | .pierceTimeEnd j => if (s.station j).state = .piercing then s.stationMissing j else none
  | .evacuationLimitExpiry j => if (s.station j).state = .evacuating then s.stationMissing j else none
  | .holdTimeEnd j => if (s.station j).state = .holding then s.stationMissing j else none
  | .releaseTimeEnd j => if (s.station j).state = .releasing then s.stationMissing j else none
  | .suspendLimitExpiry j => if (s.station j).state = .suspended then s.stationMissing j else none
  | .inertTimeoutExpiry => if s.chamber.standing.phase = some .inertWait then s.chamber.missing else none
  | .ventTimeoutExpiry => if s.chamber.standing.phase = some .ventWait then s.chamber.missing else none
  | _ => none

/-- The commands that stand for a dated event: the end of one of the part's timers. -/
abbrev isDated (i : Instr) : Prop :=
  i ∈ [Instr.scanTick, .probeTimeout, .transmitComplete, .frameGapTimeout, .inertTimeoutExpiry, .ventTimeoutExpiry]
    ∨ ∃ j : StationNo, i ∈ [Instr.pierceTimeEnd j, .evacuationLimitExpiry j, .holdTimeEnd j, .releaseTimeEnd j,
        .suspendLimitExpiry j]

/-! ## Requests as the statements write them -/

/-- 11.10: ADMIT_UNIT's fields as they are sent. -/
def AdmitOperands.bytes (o : AdmitOperands) : List Byte :=
  leBytes 4 o.tag ++ leBytes 1 o.cls ++ optional 2 o.nameplate ++ optional 2 o.foamWeight

/-- 11.10: SET_SCAN_SLOT's fields as they are sent. -/
def SlotOperands.bytes (o : SlotOperands) : List Byte :=
  leBytes 1 o.slot ++ indicator o.enabled ++ leBytes 1 o.address ++ leBytes 1 o.firstValue ++ leBytes 1 o.count

/-- 11.10: STREAM_CONTROL's fields as they are sent. -/
def StreamOperands.bytes (o : StreamOperands) : List Byte :=
  leBytes 6 o.set.toNat ++ indicator o.enable ++ leBytes 2 o.threshold ++ indicator o.flush

/-- 11.10: STAGE_CHAMBER_SETTINGS' fields as they are sent. -/
def SettingsOperands.bytes (o : SettingsOperands) : List Byte :=
  leBytes 1 (familyCode o.mode) ++ leBytes 1 o.gas ++ leBytes 2 o.b ++ leBytes 1 o.x ++ leBytes 4 o.s ++ leBytes 4 o.e
    ++ leBytes 1 o.k

/-- R31: STATION_STATE sent for a station as it stands. -/
def State.reports (s : State) (i : StationNo) : State :=
  s.raise (.stationState i (s.station i).state (s.station i).unit (s.station i).causes (s.station i).latch)

/-- R36: the receiver of a station's family is not IN_USE. -/
def State.receiverBlocks (s : State) (i : StationNo) : Bool :=
  match (s.station i).family with
  | none => false
  | some f => !(s.receiver f).standing.isInUse

/-- R160: the state in which a consumer acts on the oldest published scan it has not taken. -/
def State.taking (s : State) (c : Consumer) : State := { s with toTake := withoutScanFor c s.toTake }

/-- A value limited to a range (R109). -/
def limited (most : Nat) (raw : Int) : Nat := if raw < 0 then 0 else min raw.toNat most

/-- R142: what a trip entry from `s` with these causes leaves in `t`. Of the stations it moves the EVACUATING ones of the H
family, of the units it closes those of the charge that ran, and the Shift Account's trips rise by one. The charge that ran ends
TRUNCATED (R96), by the end of a charge that `State.endCharge` is. -/
abbrev TripEntered (s t : State) (causes : TripCauses) : Prop :=
  t.link.mode = .tripped ∧ t.protection = { s.protection with causes := causes, clearHold := none }
    ∧ t.shift.trips = s.shift.trips + 1 ∧ t.shift.number = s.shift.number ∧ t.shift.abandoned = s.shift.abandoned
    ∧ t.chamber.standing = .halted ∧ t.chamber.stopPending = false ∧ t.chamber.lastMismatch = none
    ∧ t.chamber.inForce = s.chamber.inForce ∧ t.chamber.staged = s.chamber.staged ∧ t.chamber.counter = s.chamber.counter
    ∧ t.chamber.baseline = s.chamber.baseline
    ∧ t.pins.doorPermit = false ∧ t.pins.shredRun = false ∧ t.pins.nitrogen = true
    ∧ (∀ i, t.station i =
        if (s.station i).state = .evacuating ∧ (s.station i).family = some .hydrocarbon then
          { s.station i with
            state := .suspended, suspElapsed := 0, causes := { (s.station i).causes with trip := true } }
        else s.station i)
    ∧ (∀ c, s.chamber.standing = .charging c →
        t.tracker = (s.endCharge true c).tracker ∧ t.chamber.history = (s.endCharge true c).chamber.history
        ∧ t.shift = { (s.endCharge true c).shift with trips := s.shift.trips + 1 }
        ∧ (∃ r, t.chamber.history.getLast? = some r ∧ r.number = c.number ∧ r.flags = { c.flags with truncated := true })
        ∧ (c.flags.void = false → ∀ n ∈ c.units, ∀ u, (s.tracker.units.find? fun u => u.tag = n) = some u →
            u.state = .inCharge →
            ∃ v, (t.tracker.units.find? fun u => u.tag = n) = some v ∧ v.state = .closed ∧ v.severe = true
              ∧ v.verdict = some .incomplete ∧ n ∈ t.tracker.closedList))
    ∧ ((s.chamber.standing = .stopped ∨ s.chamber.standing = .waiting) → t.tracker = s.tracker
        ∧ t.chamber.history = s.chamber.history ∧ t.shift = { s.shift with trips := s.shift.trips + 1 })
    ∧ t.now = s.now ∧ t.timing = s.timing ∧ t.receiverF = s.receiverF ∧ t.receiverH = s.receiverH ∧ t.gases = s.gases
    ∧ t.scanner = s.scanner ∧ t.sample = s.sample ∧ t.toTake = s.toTake ∧ t.pending = s.pending
    ∧ t.link.requests = s.link.requests ∧ t.link.enables = s.link.enables

/-! ## The invariants -/

/-- R1, R57, R99, R172, R186, R189: no store of the part holds more than it can. -/
abbrev State.Bounded (s : State) : Prop :=
  s.tracker.units.length ≤ 64 ∧ (∀ i : StationNo, (s.station i).trace.length ≤ 32) ∧ s.chamber.history.length ≤ 16
    ∧ s.sample.fifo.length ≤ 4096 ∧ s.link.requests.length ≤ 4 ∧ s.link.notices.length ≤ 32

/-- R30, R75: the outputs stand as the states of the stations and the chamber call for. -/
abbrev State.OutputsFollow (s : State) : Prop := s.pins = s.driven

/-- R188: the transmit line is free only when no reply is ready and no notice is queued. -/
abbrev State.LineServed (s : State) : Prop := s.link.sending = none → s.link.reply = none ∧ s.link.notices = []

/-- R42: the suspension cause set is empty in every state but SUSPENDED, where it holds a cause. -/
abbrev State.CausesHeld (s : State) : Prop :=
  ∀ i : StationNo, (s.station i).causes ≠ .empty ↔ (s.station i).state = .suspended

/-- R136, R145, R181, R182, R96, R97: what the line mode says of the trip cause set, the clear-hold run and the chamber. -/
abbrev State.ModeHeld (s : State) : Prop :=
  (s.link.mode = .running →
      s.protection.causes = .empty ∧ s.protection.clearHold = none ∧ s.chamber.standing ≠ .halted)
    ∧ (s.link.mode = .tripped → s.protection.causes ≠ .empty ∧ s.chamber.standing = .halted)
    ∧ (s.link.mode = .offline →
      (s.protection.causes = .empty ∨ s.protection.causes = .ofRequested) ∧ s.protection.clearHold = none
        ∧ s.chamber.standing = .stopped)

/-- R115: the residue of the charge that runs, if one does. -/
def ChamberStanding.residue (x : ChamberStanding) : Nat :=
  match x with
  | .charging c => c.residue
  | _ => 0

/-- R115: every residue lies between 0 and 99,999, in the current charge and in the history. -/
abbrev State.ResiduesHeld (s : State) : Prop :=
  s.chamber.standing.residue < 100000 ∧ ∀ r ∈ s.chamber.history, r.residue < 100000

/-- R1: no two records of the Unit Table have the same tag, and no tag is 0. -/
abbrev State.TagsHeld (s : State) : Prop :=
  (s.tracker.units.map (·.tag)).Nodup ∧ ∀ u ∈ s.tracker.units, u.tag ≠ 0

/-- The tags of the records in a unit state, in the order of their admission (R2). -/
def Tracker.tagsIn (x : UnitState) (t : Tracker) : List Nat := (t.units.filter fun u => u.state = x).map (·.tag)

/-- R7, 1.2: the state of the record that a station in a state holds, if it holds one. -/
def StationState.holds (x : StationState) : Option UnitState :=
  match x with
  | .assigned => some .assigned
  | .piercing | .evacuating | .suspended | .holding | .releasing => some .degassing
  | .unloading => some .degassed
  | .idle | .faulted | .locked => none

/-- R7: the units of the charge that runs, if one does. -/
def ChamberStanding.units (x : ChamberStanding) : List Nat :=
  match x with
  | .charging c => c.units
  | _ => []

/-- R79: is a void charge running? -/
def ChamberStanding.isVoid (x : ChamberStanding) : Bool :=
  match x with
  | .charging c => c.flags.void
  | _ => false

/-- R7, R18 to R20: each record of the Unit Table is in exactly the one place that matches its state: the Degas Queue holds the
ADMITTED records in their order, the Shred Queue the SHRED_QUEUED, the Closed List the CLOSED, the charge that runs (a void one
holds none) the IN_CHARGE, each once; and a station holds a record in the state that goes with its own, which names it. -/
abbrev State.PlacesHeld (s : State) : Prop :=
  s.tracker.degasQueue = s.tracker.tagsIn .admitted
    ∧ s.tracker.shredQueue.Perm (s.tracker.tagsIn .shredQueued)
    ∧ s.tracker.closedList.Perm (s.tracker.tagsIn .closed)
    ∧ s.chamber.standing.units.Perm (s.tracker.tagsIn .inCharge)
    ∧ (s.chamber.standing.isVoid = true → s.chamber.standing.units = [])
    ∧ (∀ i : StationNo, (s.station i).state.holds = none → (s.station i).unit = none)
    ∧ (∀ i : StationNo, (s.station i).state.holds ≠ none →
        ∃ u ∈ s.tracker.units, (s.station i).unit = some u.tag ∧ some u.state = (s.station i).state.holds
          ∧ u.station = some i)
    ∧ (∀ u ∈ s.tracker.units, u.station = none ↔ u.state ∉ [UnitState.assigned, .degassing, .degassed])
    ∧ ∀ u ∈ s.tracker.units, ∀ i : StationNo, u.station = some i → (s.station i).unit = some u.tag

/-- R77, R78: the staged B, X and K lie in their ranges, and the window in force is legal for the period in force. -/
abbrev State.WindowHeld (s : State) : Prop :=
  (256 ≤ s.chamber.staged.b ∧ s.chamber.staged.b ≤ 16384 ∧ s.chamber.staged.x ≤ 15 ∧ 1 ≤ s.chamber.staged.k
      ∧ s.chamber.staged.k ≤ 8)
    ∧ (16 ≤ s.chamber.inForce.s ∧ s.chamber.inForce.s + 64 ≤ s.chamber.inForce.e
      ∧ s.chamber.inForce.e + 32 ≤ (s.chamber.inForce.x + 1) * s.chamber.inForce.b
      ∧ s.chamber.inForce.s % 8 = 0 ∧ s.chamber.inForce.e % 8 = 0)

/-- R157: an allocation holds at least one cell and none beyond cell 47. -/
def Allocation.inside (o : Option Allocation) : Bool :=
  match o with
  | none => true
  | some a => 1 ≤ a.granted && a.first + a.granted ≤ 48

/-- R157: two allocations share no cell. -/
def Allocation.apart (o p : Option Allocation) : Bool :=
  match o, p with
  | some a, some b => a.first + a.granted ≤ b.first || b.first + b.granted ≤ a.first
  | _, _ => true

/-- R157: the scan image allocations never overlap and never reach beyond cell 47; every slot asks for at least one value. -/
abbrev State.AllocationsHeld (s : State) : Prop :=
  (∀ n : SlotNo, 1 ≤ s.scanner.slots[n].count ∧ Allocation.inside s.scanner.slots[n].allocation = true)
    ∧ ∀ m n : SlotNo, m ≠ n → Allocation.apart s.scanner.slots[m].allocation s.scanner.slots[n].allocation = true

/-- R150 to R152: the divisor lies in its range, the countdown within it, and the ticks from the previous scan start to the
next scan tick are a whole number of divisors, unless the next scan carries E = D. -/
abbrev State.TicksHeld (s : State) : Prop :=
  10 ≤ s.scanner.divisor ∧ s.scanner.divisor ≤ 10000 ∧ s.scanner.countdown ≤ s.scanner.divisor
    ∧ (s.scanner.markedD = true ∨ s.scanner.divisor ∣ s.scanner.sinceStart + s.scanner.countdown)

/-- What a safe run keeps: all of the above. -/
abbrev State.Safe (s : State) : Prop :=
  s.Bounded ∧ s.OutputsFollow ∧ s.LineServed ∧ s.CausesHeld ∧ s.ModeHeld ∧ s.ResiduesHeld ∧ s.TagsHeld ∧ s.AllocationsHeld
    ∧ s.TicksHeld ∧ s.PlacesHeld ∧ s.WindowHeld

end Sys2Proof.Machine
end

