-- ==== Sys2Proof/WellFormed.lean ====
section
/-! DEFINITION. WellFormed.lean: which commands a sender can send. A request's payload fits a frame (R184), a BAD_KIND's
kind names no request (R186), a probe's reply counts its values in one byte (11.13). -/

namespace Sys2Proof

/-- A command that the Line Link, the Probe Bus or the part itself can bring about. -/
def Instr.wf (i : Instr) : Bool :=
  match i with
  | .frameReceived _ _ payload _ => payload.length ≤ Config.payloadMost
  | .badKind kind _ payload => !namesRequest kind && payload.length ≤ Config.payloadMost
  | .probeReply _ values _ => values.length ≤ 255
  | i =>
    match requestOf i with
    | some (_, _, payload) => payload.length ≤ Config.payloadMost
    | none => true

end Sys2Proof
end

