-- ==== Sys2Proof/Certificates/Slice0/Obligations.lean ====
section
/-! DEFINITION. Certificates/Slice0/Obligations.lean: the statements for the provers. Requests are stated for a request received
in its turn (R186); `State.sends` gives its reply to the transmit line (R188). Where a command stands for the moment at which a
timer is due, the ticks that were still missing pass with it, provided that they pass over no other dated event
(`State.mayPass`, notes/assumptions/2.md). -/

section

open Sys2Proof Sys2Proof.Machine

/-! ## The part as a machine -/

/-- The command at the front of the queue is the one carried out, with the queue's rest. -/
def Obligations.StepTakesTheFrontCommand : Prop :=
  ∀ (c : Instr) (rest : List Instr) (s : State), s.pending = c :: rest → step s = exec c { s with pending := rest }

/-- The model's choice (notes/assumptions/1.md, notes/assumptions/2.md, notes/assumptions/3.md). With no command waiting and none of
the part's own events ready, one tick passes: the timers that run go on by one tick (8.1, R150, R151, R38, R47, R88, R92), and
nothing else changes but the outputs and the transmit line, which settle as after every command. With one or more of the part's
own events ready, one of those comes next, and nothing else changes but the count of such choices. A command that stands for a
dated event does nothing while no such timer runs, or while another dated event is due earlier. -/
def Obligations.IdleRaisesAnEventOrPassesATick : Prop :=
  (∀ s : State, s.pending = [] → s.readyEvents = [] →
    ∃ t, step s = .next t ∧ t.now = s.now + 1 ∧ t.scanner.countdown = s.scanner.countdown - 1
      ∧ t.scanner.sinceStart = s.scanner.sinceStart + 1
      ∧ (∀ i, (t.station i).timer = (s.station i).timer + (if (timedCommand i (s.station i).state).isEmpty then 0 else 1)
          ∧ (t.station i).state = (s.station i).state ∧ (t.station i).unit = (s.station i).unit)
      ∧ (∀ c, s.chamber.standing = .charging c →
          ∃ d, t.chamber.standing = .charging d ∧ d.phase = c.phase ∧ d.mass = c.mass
            ∧ d.waitElapsed = c.waitElapsed + (if c.phase = .inertWait ∨ c.phase = .ventWait then 1 else 0))
      ∧ (∀ x, s.link.sending = some x → t.link.sending = some { x with elapsed := x.elapsed + 1 })
      ∧ t = { s with
          now := t.now, stations := t.stations, chamber := { s.chamber with standing := t.chamber.standing }
          scanner := t.scanner, link := t.link, pins := t.pins })
  ∧ (∀ s : State, s.pending = [] → s.readyEvents ≠ [] →
    ∃ i ∈ s.readyEvents, ∃ n, step s = .next { s with pending := [i], choices := n })
  ∧ (∀ (i : Instr) (s : State), isDated i → (∀ n, s.dateOf i = some n → s.mayPass n = false) →
    exec i s = .next s.settle)

/-- The part never stops: every command answers a next state. That every command, POWER_ON among them, leaves the queue of commands
and the count of choices as they are is the model's choice: both are its own fields and no state of the part
(notes/assumptions/1.md, notes/assumptions/3.md, notes/assumptions/19.md). -/
def Obligations.EveryCommandAnswersNext : Prop :=
  ∀ (i : Instr) (s : State), ∃ t, exec i s = .next t ∧ t.pending = s.pending ∧ t.choices = s.choices

/-- Every invariant stated below holds after power-on. -/
def Obligations.ResetMeetsEveryInvariant : Prop := State.reset.Safe

/-- POWER_ON sets every piece of the part's state to its initial value (R27, R59, R72, R103, R105, R111, R135, R149, R169, R179,
R194). The model's own queue of commands and its count of choices go on; that, and the values of the fields that are the model's
own (the count of ticks, the scans to be taken, the ticks since a scan start, the condition of a weight), are its choice
(notes/assumptions/19.md). -/
def Obligations.PowerOnSetsInitialValues : Prop :=
  let name (text : String) : List Byte := text.toList.map fun c => BitVec.ofNat 8 c.toNat
  ∀ s : State, ∃ t, exec .powerOn s = .next t ∧ t.pending = s.pending ∧ t.choices = s.choices
    ∧ (t.link.mode = .offline ∧ t.link.rx = .waiting ∧ t.link.requests = [] ∧ t.link.notices = []
        ∧ (∀ n : Fin 13, t.link.enables.getLsbD n = true) ∧ t.link.flags.mask = 0 ∧ t.link.reply = none
        ∧ t.link.sending = none)
    ∧ (t.tracker.units = [] ∧ t.tracker.degasQueue = [] ∧ t.tracker.shredQueue = [] ∧ t.tracker.closedList = []
        ∧ t.tracker.admissionCounter = 1 ∧ (∀ n : Fin 32, t.tracker.classes[n] = none))
    ∧ (∀ i, (t.station i).state = .idle ∧ (t.station i).unit = none ∧ (t.station i).family = none
        ∧ (t.station i).causes = .empty ∧ (t.station i).latch = none ∧ (t.station i).lastSeen = none
        ∧ (t.station i).trace = [] ∧ (t.station i).lastRise = none ∧ (t.station i).accumulator = 0
        ∧ (t.station i).cycleStart = 0 ∧ (t.station i).phaseTimer = 0 ∧ (t.station i).evacElapsed = 0
        ∧ (t.station i).suspElapsed = 0 ∧ (t.station i).reevacuations = 0 ∧ (t.station i).latestPressure = 0
        ∧ (t.station i).holdStart = 0 ∧ (t.station i).traceCount = 0
        ∧ t.pins.needle[i] = false ∧ t.pins.evac[i] = false)
    ∧ t.timing = ⟨30, 1100, 30, 600, 60, 15, 600, 10⟩
    ∧ (∀ f, (t.receiver f).standing = .swapping ∧ (t.receiver f).lastClosed = none ∧ (t.receiver f).fillLimit = 45000
        ∧ (t.receiver f).weight = none ∧ (t.receiver f).weightCondition = none)
    ∧ (t.chamber.standing = .stopped ∧ t.chamber.inForce = ⟨.fluorinated, 0, 6000, 0, 200, 5600, 4⟩
        ∧ t.chamber.staged = t.chamber.inForce ∧ t.chamber.stagingPending = false ∧ t.chamber.stopPending = false
        ∧ t.chamber.startPending = false ∧ t.chamber.counter = 0 ∧ t.chamber.lastMismatch = none
        ∧ t.chamber.baseline = 0 ∧ t.chamber.baselineHigh = false ∧ t.chamber.limits = ⟨40, 120, 200, 300⟩
        ∧ t.chamber.history = [])
    ∧ (t.pins.doorPermit = false ∧ t.pins.shredRun = false ∧ t.pins.nitrogen = false)
    ∧ t.gases.toList
        = [some ⟨name "trichlorofluorom", .fluorinated, 5714, none⟩,
          some ⟨name "dichlorodifluoro", .fluorinated, 5029, none⟩,
          some ⟨name "1,1,1,2-tetraflu", .fluorinated, 4244, none⟩,
          some ⟨name "1,1-dichloro-1-f", .fluorinated, 4864, none⟩,
          some ⟨name "isobutane       ", .hydrocarbon, 2417, some 18000⟩,
          some ⟨name "cyclopentane    ", .hydrocarbon, 2917, some 11000⟩,
          some ⟨name "propane         ", .hydrocarbon, 1834, some 21000⟩,
          none]
    ∧ (t.deadBand = 5 ∧ t.maximumBaseline = 500 ∧ t.shift = .opened 1)
    ∧ (t.protection.causes.mask = 0 ∧ t.protection.clearHold = none ∧ t.protection.limits = ⟨25, 60, 10, 30⟩)
    ∧ (t.scanner.divisor = 1000 ∧ t.scanner.countdown = 1000 ∧ t.scanner.inProgress = none ∧ t.scanner.published = none
        ∧ (∀ n : SlotNo, t.scanner.slots[n] = ⟨false, 1, 0, 1, 0, .fresh, none⟩)
        ∧ t.scanner.markedD = true ∧ t.scanner.sinceStart = 0 ∧ t.scanner.nextSequence = 0 ∧ t.toTake = [] ∧ t.now = 0
        ∧ (∀ n : CellNo, t.scanner.working[n] = ⟨0, false⟩) ∧ (∀ r : RoleNo, t.scanner.roles[r] = .afresh none)
        ∧ t.scanner.holdLimit = 20 ∧ t.scanner.settlingCount = 50 ∧ t.scanner.settlingRemaining = 50)
    ∧ (t.sample.fifo = [] ∧ t.sample.set = 0#48 ∧ t.sample.enable = false ∧ t.sample.threshold = 2048
        ∧ t.sample.armed = true)

/-! ## What every step keeps -/

/-- R1, R57, R99, R172, R186, R189: no step fills a store beyond what it holds. -/
def Obligations.StepKeepsBounds : Prop := ∀ s t : State, s.Bounded → step s = .next t → t.Bounded

/-- R30, R75, R188: after every step the outputs stand as the states of the stations and the chamber call for, and the transmit
line is free only with nothing to send. -/
def Obligations.StepKeepsOutputsAndLine : Prop :=
  ∀ s t : State, s.OutputsFollow → s.LineServed → step s = .next t → t.OutputsFollow ∧ t.LineServed

/-- R42: after every step a station's cause set holds a cause exactly when it is SUSPENDED. -/
def Obligations.StepKeepsCauses : Prop := ∀ s t : State, s.CausesHeld → step s = .next t → t.CausesHeld

/-- R136, R145, R96, R97, R181, R182: every step keeps the trip cause set, the clear-hold run and the chamber in agreement with
the line mode. -/
def Obligations.StepKeepsLineMode : Prop := ∀ s t : State, s.ModeHeld → step s = .next t → t.ModeHeld

/-- R115, R1, R7, R157: every step keeps every residue between 0 and 99,999; after every step no two records of the Unit Table have
the same tag, and none has the tag 0; every record is in exactly the one place that matches its state, and every queue, station
and charge names records that are held (R7, R18 to R20); and after every step the scan image allocations do not overlap and do
not reach beyond cell 47. -/
def Obligations.StepKeepsRecordsAndCells : Prop :=
  (∀ s t : State, s.ResiduesHeld → step s = .next t → t.ResiduesHeld)
  ∧ (∀ s t : State, s.TagsHeld → step s = .next t → t.TagsHeld)
  ∧ (∀ s t : State, s.TagsHeld → s.PlacesHeld → step s = .next t → t.PlacesHeld)
  ∧ (∀ s t : State, s.AllocationsHeld → step s = .next t → t.AllocationsHeld)

/-- R150 to R152: every step keeps the divisor in its range and the countdown within it, and the next scan start a whole number
of divisors after the previous one unless the next scan is marked to carry E = D. -/
def Obligations.StepKeepsTicks : Prop := ∀ s t : State, s.TicksHeld → step s = .next t → t.TicksHeld

/-! ## Requests, frames and the transmit line -/

/-- R186, with the model's choice of how a request that comes out of its turn is held (notes/assumptions/4.md,
notes/assumptions/27.md): while the reply to the request before it has not begun to be sent, or another request waits ahead of
it, or (LINE_RESTART alone, R183) some consumers have taken a published scan and others have not, a request waits in the request
queue; when four wait already it is discarded and FRAME_ERROR is set. -/
def Obligations.RequestOutOfTurnWaits : Prop :=
  ∀ (i : Instr) (kind tag : Byte) (payload : List Byte) (s : State), requestOf i = some (kind, tag, payload) →
    ¬ s.TurnOf ⟨kind, tag, payload⟩ →
    ∃ t, exec i s = .next t
      ∧ (s.link.requests.length < 4 →
          t.link.requests = s.link.requests ++ [⟨kind, tag, payload⟩] ∧ t.link.flags = s.link.flags)
      ∧ (4 ≤ s.link.requests.length →
          t.link.requests = s.link.requests ∧ t.link.flags = s.link.flags.withFrameError)
      ∧ t.link.mode = s.link.mode ∧ t.link.rx = s.link.rx ∧ t.link.enables = s.link.enables
      ∧ t = { s with link := t.link, pins := s.driven }

/-- R186, R187, 11.10: a named request whose payload has another length than its layout requires is answered OUT_OF_RANGE, the
status alone, and changes nothing. A kind that names no request, every kind of 80h or above among them, is answered with the
kind FFh, its tag, the status BAD_KIND and the kind received, and changes nothing. -/
def Obligations.BadRequestsAreAnswered : Prop :=
  (∀ (i : Instr) (kind tag : Byte) (payload : List Byte) (n : Nat) (s : State), i.wf = true →
    requestOf i = some (kind, tag, payload) →
    requestLength kind = some n → payload.length ≠ n → s.TurnOf ⟨kind, tag, payload⟩ →
    exec i s = .next (s.takeFromQueue.sends (replyFrame kind tag .outOfRange [])))
  ∧ ((∀ (kind tag : Byte) (payload : List Byte) (s : State), namesRequest kind = false → s.TurnOf ⟨kind, tag, payload⟩ →
      exec (.badKind kind tag payload) s
        = .next (s.takeFromQueue.sends ⟨0xFF#8, tag, [0x0D#8, kind]⟩))
    ∧ ∀ kind : Byte, 0x80 ≤ kind.toNat → namesRequest kind = false)

/-- R187: every named request, taken in its turn, is answered with its kind plus 80h, its tag and a status first; and a request
answered IGNORED or with a status that refuses it has changed no state. -/
def Obligations.RefusalChangesNothing : Prop :=
  ∀ (i : Instr) (kind tag : Byte) (payload : List Byte) (s : State), i.wf = true →
    requestOf i = some (kind, tag, payload) → namesRequest kind = true → s.TurnOf ⟨kind, tag, payload⟩ →
    ∃ (t : State) (st : Status) (body : List Byte), exec i s = .next (t.sends (replyFrame kind tag st body))
      ∧ t.link.sending = s.link.sending ∧ t.link.reply = none ∧ t.link.requests = s.link.requests.tail
      ∧ (st.refuses = true → t = s.takeFromQueue)

/-- 11.3, R186: the command that a received request spells carries that request's kind, tag and payload, and a well-formed
command is the one that its own request spells. -/
def Obligations.RequestsAndCommandsAgree : Prop :=
  (∀ (kind tag : Byte) (payload : List Byte), requestOf (commandOf kind tag payload) = some (kind, tag, payload))
    ∧ ∀ (i : Instr) (kind tag : Byte) (payload : List Byte), i.wf = true → requestOf i = some (kind, tag, payload) →
      commandOf kind tag payload = i

/-- R185, R186: a complete frame whose CRC is right waits as a received request, unless four wait already; one whose CRC is
wrong is discarded; either failure sets FRAME_ERROR. The frame receiver waits again, and nothing else changes. That the whole
frame also replaces, without a flag, a partial frame that the receiver stood inside is the model's choice
(notes/assumptions/6.md). -/
def Obligations.FrameReceivedQueuesTheRequest : Prop :=
  ∀ (kind tag : Byte) (payload : List Byte) (crc : BitVec 16) (s : State), payload.length ≤ 1024 →
    ∃ t, exec (.frameReceived kind tag payload crc) s = .next t ∧ t.link.rx = .waiting
      ∧ (crc = crc16 (covered kind tag payload) ∧ s.link.requests.length < 4 →
          t.link.requests = s.link.requests ++ [⟨kind, tag, payload⟩] ∧ t.link.flags = s.link.flags)
      ∧ (crc ≠ crc16 (covered kind tag payload) ∨ 4 ≤ s.link.requests.length →
          t.link.requests = s.link.requests ∧ t.link.flags = s.link.flags.withFrameError)
      ∧ t.link.mode = s.link.mode ∧ t.link.enables = s.link.enables ∧ t = { s with link := t.link, pins := s.driven }

/-- R184, R185: the bytes of a whole frame, received one after the other by a frame receiver that waits, do what the complete
frame does. -/
def Obligations.BytesMakeTheFrame : Prop :=
  ∀ (kind tag : Byte) (payload : List Byte) (crc : BitVec 16) (s : State), payload.length ≤ 1024 → s.link.rx = .waiting →
    bytesIn (envelope kind tag payload crc) s = exec (.frameReceived kind tag payload crc) s

/-- R184: what one byte does. While waiting, A5h begins a frame and any other byte is discarded with FRAME_ERROR. Inside a frame
a byte joins it while the frame is short, unless the second length byte makes the length exceed 1,024 or more than 5 ms
passed since the latest byte; then the frame is discarded with FRAME_ERROR, and after such a gap the byte is examined as while
waiting. And the gap itself: more than 5 ms after the latest byte the partial frame is discarded, FRAME_ERROR is set and the
frame receiver waits. That the gap is counted in whole ticks from the step that takes one byte to the step that takes the next,
so that it is too long from tick 51 on and not at tick 50, is the model's (DEDUCED, notes/assumptions/6.md; R184 counts from the
end of a byte to the start of the next); that the ticks missing to tick 51 pass with the event is its choice
(notes/assumptions/2.md). -/
def Obligations.FrameBytesAreExamined : Prop :=
  (∀ (b : Byte) (s : State), ∃ t, exec (.frameByteReceived b) s = .next t
    ∧ (s.link.rx = .waiting → b = 0xA5#8 → t.link.rx = .inside [] 0 ∧ t.link.flags = s.link.flags)
    ∧ (s.link.rx = .waiting → b ≠ 0xA5#8 → t.link.rx = .waiting ∧ t.link.flags = s.link.flags.withFrameError)
    ∧ (∀ received gap, s.link.rx = .inside received gap → 50 < gap →
        t.link.rx = (if b = 0xA5#8 then .inside [] 0 else .waiting) ∧ t.link.flags = s.link.flags.withFrameError)
    ∧ (∀ received gap, s.link.rx = .inside received gap → gap ≤ 50 →
        (received.length = 0 → t.link.rx = .inside [b] 0 ∧ t.link.flags = s.link.flags)
        ∧ (received.length = 1 → 1024 < leValue (received ++ [b]) →
            t.link.rx = .waiting ∧ t.link.flags = s.link.flags.withFrameError)
        ∧ (1 ≤ received.length → leValue ((received ++ [b]).take 2) ≤ 1024 →
            received.length + 1 < leValue ((received ++ [b]).take 2) + 6 →
            t.link.rx = .inside (received ++ [b]) 0 ∧ t.link.flags = s.link.flags))
    ∧ t.link.mode = s.link.mode ∧ t.link.enables = s.link.enables ∧ t = { s with link := t.link, pins := s.driven })
  ∧ (∀ (received : List Byte) (gap : Nat) (s : State), s.link.rx = .inside received gap →
    s.mayPass (51 - gap) = true →
    ∃ t, exec .frameGapTimeout s = .next t ∧ t.link.rx = .waiting ∧ t.link.flags = s.link.flags.withFrameError
      ∧ t.now = s.now + (51 - gap) ∧ t.link.requests = s.link.requests ∧ t.link.enables = s.link.enables
      ∧ t.link.mode = s.link.mode ∧ t.tracker = s.tracker ∧ t.shift = s.shift ∧ t.protection = s.protection
      ∧ t.sample = s.sample ∧ t.toTake = s.toTake ∧ t.receiverF = s.receiverF ∧ t.receiverH = s.receiverH)

/-- R189: what raising a notice does: of a disabled kind it is discarded; enabled, it is appended while fewer than 32 are queued,
else dropped with NOTICE_LOST set; nothing else changes. R188: when a frame has been sent the line takes the reply that is ready,
else the oldest notice, which leaves the Notice Queue; with neither it stays free. The ticks that the sending still took pass
(notes/assumptions/2.md). -/
def Obligations.TransmitCompleteChoosesTheNextFrame : Prop :=
  (∀ (n : Notice) (s : State),
    (s.link.enables.getLsbD n.place = false → s.raise n = s)
    ∧ (s.link.enables.getLsbD n.place = true → s.link.notices.length < 32 →
      s.raise n = { s with link := { s.link with notices := s.link.notices ++ [n] } })
    ∧ (s.link.enables.getLsbD n.place = true → 32 ≤ s.link.notices.length →
      s.raise n = { s with link := { s.link with flags := { s.link.flags with noticeLost := true } } }))
  ∧ ∀ (x : Sending) (s : State), s.link.sending = some x → s.mayPass (x.frame.ticks - x.elapsed) = true →
    ∃ t, exec .transmitComplete s = .next t ∧ t.link.sending = s.link.nextFrame.map (⟨·, 0⟩) ∧ t.link.reply = none
      ∧ t.link.notices = (if s.link.reply.isSome then s.link.notices else s.link.notices.tail)
      ∧ t.now = s.now + (x.frame.ticks - x.elapsed)
      ∧ t.link.mode = s.link.mode ∧ t.link.requests = s.link.requests ∧ t.link.enables = s.link.enables
      ∧ t.link.flags = s.link.flags
      ∧ t = { s with
          now := t.now, stations := t.stations, chamber := { s.chamber with standing := t.chamber.standing }
          scanner := t.scanner, link := t.link, pins := t.pins }
      ∧ ∀ i, (t.station i).state = (s.station i).state ∧ (t.station i).unit = (s.station i).unit

/-! ## The line modes -/

/-- R182: GO_OFFLINE in each line mode, with and without work in flight. -/
def Obligations.GoOfflineNeedsARestingLine : Prop :=
  ∀ (tag : Byte) (s : State), s.TurnOf ⟨0x3D#8, tag, []⟩ →
    (s.link.mode = .tripped →
        exec (.goOffline tag []) s = .next (s.takeFromQueue.sends (replyFrame 0x3D#8 tag .wrongMode [])))
    ∧ (s.link.mode = .offline →
        exec (.goOffline tag []) s = .next (s.takeFromQueue.sends (replyFrame 0x3D#8 tag .ignored [])))
    ∧ (s.link.mode = .running →
        ((∃ u ∈ s.tracker.units, u.state ≠ .closed) ∨ s.chamber.standing ≠ .stopped
            ∨ ∃ i, (s.station i).state ≠ .idle ∧ (s.station i).state ≠ .faulted ∧ (s.station i).state ≠ .locked) →
        exec (.goOffline tag []) s = .next (s.takeFromQueue.sends (replyFrame 0x3D#8 tag .wrongState [])))
    ∧ (s.link.mode = .running → (∀ u ∈ s.tracker.units, u.state = .closed) → s.chamber.standing = .stopped →
        (∀ i, (s.station i).state = .idle ∨ (s.station i).state = .faulted ∨ (s.station i).state = .locked) →
        exec (.goOffline tag []) s
            = .next (({ s.takeFromQueue with link := { s.takeFromQueue.link with mode := .offline } } : State).sends
                (replyFrame 0x3D#8 tag .done []))
          ∧ s.driven = Pins.released)

/-- R181. GO_ONLINE of an OFFLINE line with no recorded REQUESTED_TRIP whose required roles (those of a LOCKED station are
not) are all bound and VALID: the line is RUNNING, the reply DONE, and the arbiter makes its pass (R21); with an empty Degas
Queue nothing else changes. And refused: WRONG_MODE in TRIPPED, IGNORED in RUNNING, NOT_CLEAR with a recorded REQUESTED_TRIP,
then MISSING_BINDING with the set of required roles that are unbound, then NOT_READY with the set of those not VALID. -/
def Obligations.GoOnlineStartsAReadyLine : Prop :=
  (∀ (tag : Byte) (s : State), s.TurnOf ⟨0x3C#8, tag, []⟩ → s.link.mode = .offline →
    s.protection.causes.requestedTrip = false →
    (∀ r : RoleNo, 12 ≤ r.val → (s.scanner.roles[r]).binding ≠ none ∧ (s.latestReading r).condition = .valid) →
    (∀ (i : StationNo) (r : RoleNo), (s.station i).state ≠ .locked → r.val < 12 → r.val % 4 = i.val →
        (s.scanner.roles[r]).binding ≠ none ∧ (s.latestReading r).condition = .valid) →
    ∃ t, exec (.goOnline tag []) s = .next t ∧ t.link.mode = .running
      ∧ Answered s t (replyFrame 0x3C#8 tag .done [])
      ∧ (let u : State := { s.takeFromQueue with link := { s.takeFromQueue.link with mode := .running } }
        t.tracker = u.arbiterPass.tracker ∧ t.stations = u.arbiterPass.stations)
      ∧ (s.tracker.degasQueue = [] →
          t = ({ s.takeFromQueue with link := { s.takeFromQueue.link with mode := .running } } : State).sends
                (replyFrame 0x3C#8 tag .done []))
      ∧ t = { s with tracker := t.tracker, stations := t.stations, link := t.link, pins := t.pins })
  ∧ (∀ (tag : Byte) (s : State), s.TurnOf ⟨0x3C#8, tag, []⟩ →
    let refusal : Option (Status × List Byte) :=
      if s.link.mode = .tripped then some (.wrongMode, [])
      else if s.link.mode = .running then some (.ignored, [])
      else if s.protection.causes.requestedTrip then some (.notClear, [])
      else if s.unboundRoles.any id then some (.missingBinding, leBytes 3 (maskOf s.unboundRoles))
      else if s.unreadyRoles.any id then some (.notReady, leBytes 3 (maskOf s.unreadyRoles))
      else none
    ∀ x, refusal = some x →
      exec (.goOnline tag []) s = .next (s.takeFromQueue.sends (replyFrame 0x3C#8 tag x.1 x.2)))

/-- R183 with R28, R60, R73, R104, R132, R149, R170 and R179: LINE_RESTART, block by block, taken when no published scan is partly
taken (`State.TurnOf`, notes/assumptions/27.md). -/
def Obligations.LineRestartClearsTheWork : Prop :=
  ∀ (tag : Byte) (s : State), s.TurnOf ⟨0x3E#8, tag, []⟩ →
    ∃ t, exec (.lineRestart tag []) s = .next t ∧ t.link.mode = .offline
      ∧ Answered s t (replyFrame 0x3E#8 tag .done [])
      ∧ t.link.requests = s.link.requests.tail ∧ t.link.enables = s.link.enables
      ∧ (s.link.notices.length ≤ 28 → t.link.flags = s.link.flags)
      ∧ s.link.notices <+: t.link.notices
      ∧ (t.tracker.units = s.tracker.units.filter (fun u => u.state = .closed) ∧ t.tracker.degasQueue = []
          ∧ t.tracker.shredQueue = [] ∧ t.tracker.closedList = s.tracker.closedList
          ∧ t.tracker.admissionCounter = s.tracker.admissionCounter ∧ t.tracker.classes = s.tracker.classes)
      ∧ (∀ i, (t.station i).state = (if (s.station i).state = .locked then .locked else .idle)
          ∧ (t.station i).unit = none ∧ (t.station i).family = none ∧ (t.station i).causes = .empty
          ∧ (t.station i).latch = none ∧ (t.station i).trace = (s.station i).trace
          ∧ (t.station i).lastSeen = (s.station i).lastSeen)
      ∧ t.chamber = { s.chamber with
          standing := .stopped, stopPending := false, startPending := false, history := [], counter := 0, baseline := 0
          baselineHigh := false, lastMismatch := none }
      ∧ t.shift = { s.shift with
          abandoned := s.shift.abandoned + (s.tracker.units.filter fun u => u.state ≠ .closed).length }
      ∧ t.protection = { s.protection with causes := .empty, clearHold := none }
      ∧ t.sample = { s.sample with fifo := [], set := 0#48, enable := false, armed := true }
      ∧ t.pins = Pins.released
      ∧ t = { s with
          tracker := t.tracker, stations := t.stations, chamber := t.chamber, shift := t.shift
          protection := t.protection, sample := t.sample, link := t.link, pins := t.pins }

/-- R191, R192, 11.8: QUERY_STATUS answers DONE with the 77 bytes of the status reply, the fields named here at their places,
clears the five flags it reported, and changes nothing else. -/
def Obligations.QueryStatusReportsAndClears : Prop :=
  ∀ (tag : Byte) (s : State), s.TurnOf ⟨0x3F#8, tag, []⟩ →
    ∃ body, exec (.queryStatus tag []) s
        = .next (({ s.takeFromQueue with link := { s.takeFromQueue.link with flags := .clear } } : State).sends
            (replyFrame 0x3F#8 tag .done body))
      ∧ body.length = 76
      ∧ field body 0 1 = s.link.mode.code ∧ field body 1 1 = s.protection.causes.mask
      ∧ (∀ i : StationNo, field body (2 + 8 * i.val) 1 = (s.station i).state.code)
      ∧ field body 36 1 = s.chamber.standing.code ∧ field body 39 1 = s.tracker.units.length % 256
      ∧ field body 50 2 = s.sample.fifo.length % 65536 ∧ field body 52 2 = s.scanner.settlingRemaining % 65536
      ∧ (∀ r : RoleNo, field body (54 + r.val) 1 = (s.latestReading r).condition.code)
      ∧ field body 71 1 = s.link.notices.length % 256 ∧ field body 72 1 = s.link.requests.tail.length % 256
      ∧ field body 73 2 = s.link.enables.toNat ∧ field body 75 1 = s.link.flags.mask

/-! ## Settings, tables and queries -/

/-- 2.10, 3.6, 4.2, 5.2, 7.2, 8.5, 10.5: the settings requests. Taken in OFFLINE with every value in its range (the vacuum target
below the empty-circuit threshold, the clear percent not above the load-trip percent) a request replaces its settings and is
answered DONE with the values; with a value out of range it is answered OUT_OF_RANGE. The notice enables are replaced in every
line mode. Nothing else changes. -/
def Obligations.SettingsAreStored : Prop :=
  ∀ (tag : Byte) (s : State), (s.link.mode = .offline →
    (∀ t : StationTiming, s.TurnOf ⟨0x0E#8, tag, t.bytes⟩ → t.pierceTime < 65536 → t.emptyThreshold < 65536 →
        t.vacuumTarget < 65536 → t.evacLimit < 65536 → t.holdTime < 65536 → t.riseLimit < 65536 →
        t.suspendLimit < 65536 → t.traceInterval < 256 →
        exec (.setStationTiming tag t.bytes) s
          = .next (if 5 ≤ t.pierceTime ∧ t.pierceTime ≤ 100 ∧ 100 ≤ t.emptyThreshold ∧ t.emptyThreshold ≤ 3000
                ∧ 1 ≤ t.vacuumTarget ∧ t.vacuumTarget ≤ 500 ∧ t.vacuumTarget < t.emptyThreshold ∧ 10 ≤ t.evacLimit
                ∧ t.evacLimit ≤ 3600 ∧ 5 ≤ t.holdTime ∧ t.holdTime ≤ 600 ∧ 1 ≤ t.riseLimit ∧ t.riseLimit ≤ 500
                ∧ 10 ≤ t.suspendLimit ∧ t.suspendLimit ≤ 3600 ∧ 1 ≤ t.traceInterval
              then ({ s.takeFromQueue with timing := t } : State).sends (replyFrame 0x0E#8 tag .done t.bytes)
              else s.takeFromQueue.sends (replyFrame 0x0E#8 tag .outOfRange [])))
    ∧ (∀ (f : Family) (n : Nat), s.TurnOf ⟨0x13#8, tag, leBytes 1 (familyCode f) ++ leBytes 4 n⟩ → n < 2 ^ 32 →
        exec (.setFillLimit tag (leBytes 1 (familyCode f) ++ leBytes 4 n)) s
          = .next (if 1000 ≤ n ∧ n ≤ 100000
              then (s.takeFromQueue.setReceiver f { s.receiver f with fillLimit := n }).sends
                (replyFrame 0x13#8 tag .done (leBytes 4 n))
              else s.takeFromQueue.sends (replyFrame 0x13#8 tag .outOfRange [])))
    ∧ (∀ l : ChamberLimits, s.TurnOf ⟨0x1B#8, tag, l.bytes⟩ → l.inertPermit < 256 → l.inertTimeout < 65536 →
        l.ventLevel < 65536 → l.ventTimeout < 65536 →
        exec (.setChamberLimits tag l.bytes) s
          = .next (if 10 ≤ l.inertPermit ∧ l.inertPermit ≤ 150 ∧ 10 ≤ l.inertTimeout ∧ l.inertTimeout ≤ 1200
                ∧ 10 ≤ l.ventLevel ∧ l.ventLevel ≤ 10000 ∧ 10 ≤ l.ventTimeout ∧ l.ventTimeout ≤ 3600
              then ({ s.takeFromQueue with chamber := { s.chamber with limits := l } } : State).sends
                (replyFrame 0x1B#8 tag .done l.bytes)
              else s.takeFromQueue.sends (replyFrame 0x1B#8 tag .outOfRange [])))
    ∧ (∀ d m : Nat, s.TurnOf ⟨0x21#8, tag, leBytes 2 d ++ leBytes 2 m⟩ → d < 65536 → m < 65536 →
        exec (.setArithmeticLimits tag (leBytes 2 d ++ leBytes 2 m)) s
          = .next (if d ≤ 200 ∧ m ≤ 10000
              then ({ s.takeFromQueue with deadBand := d, maximumBaseline := m } : State).sends
                (replyFrame 0x21#8 tag .done (leBytes 2 d ++ leBytes 2 m))
              else s.takeFromQueue.sends (replyFrame 0x21#8 tag .outOfRange [])))
    ∧ (∀ l : ProtectionLimits, s.TurnOf ⟨0x28#8, tag, l.bytes⟩ → l.loadTripPercent < 256 → l.oxygenTrip < 256 →
        l.clearPercent < 256 → l.clearHold < 65536 →
        exec (.setProtectionLimits tag l.bytes) s
          = .next (if 5 ≤ l.loadTripPercent ∧ l.loadTripPercent ≤ 50 ∧ 20 ≤ l.oxygenTrip ∧ l.oxygenTrip ≤ 210
                ∧ 1 ≤ l.clearPercent ∧ l.clearPercent ≤ 50 ∧ l.clearPercent ≤ l.loadTripPercent ∧ 5 ≤ l.clearHold
                ∧ l.clearHold ≤ 600
              then ({ s.takeFromQueue with protection := { s.protection with limits := l } } : State).sends
                (replyFrame 0x28#8 tag .done l.bytes)
              else s.takeFromQueue.sends (replyFrame 0x28#8 tag .outOfRange [])))
    ∧ (∀ h n : Nat, s.TurnOf ⟨0x34#8, tag, leBytes 1 h ++ leBytes 2 n⟩ → h < 256 → n < 65536 →
        exec (.setSignalLimits tag (leBytes 1 h ++ leBytes 2 n)) s
          = .next (if 1 ≤ h ∧ n ≤ 1000
              then ({ s.takeFromQueue with scanner := { s.scanner with holdLimit := h, settlingCount := n } } : State).sends
                (replyFrame 0x34#8 tag .done (leBytes 1 h ++ leBytes 2 n))
              else s.takeFromQueue.sends (replyFrame 0x34#8 tag .outOfRange []))))
  ∧ ∀ e : BitVec 13, s.TurnOf ⟨0x3B#8, tag, leBytes 2 e.toNat⟩ →
      exec (.setNoticeEnables tag (leBytes 2 e.toNat)) s
        = .next (({ s.takeFromQueue with link := { s.takeFromQueue.link with enables := e } } : State).sends
            (replyFrame 0x3B#8 tag .done (leBytes 2 e.toNat)))

/-- 10.7: outside OFFLINE the requests that write the line's configuration are refused with WRONG_MODE, the status alone, and
change nothing, whatever values a payload of the right length carries (a receiver, an indicator or a role that names nothing
is refused before the mode, R71, R195). -/
def Obligations.ConfigurationNeedsOffline : Prop :=
  ∀ (i : Instr) (kind tag : Byte) (payload : List Byte) (s : State), i.wf = true →
    requestOf i = some (kind, tag, payload) → requestLength kind = some payload.length → s.TurnOf ⟨kind, tag, payload⟩ → s.link.mode ≠ .offline →
    (kind ∈ [0x0E#8, 0x1B#8, 0x21#8, 0x28#8, 0x32#8, 0x34#8]
      ∨ (kind = 0x13#8 ∧ field payload 0 1 < 2) ∨ (kind = 0x05#8 ∧ (readClassBlock payload).isSome)
      ∨ (kind = 0x20#8 ∧ (readGasBlock payload).isSome) ∨ (kind = 0x33#8 ∧ (readBinding payload).isSome)) →
    exec i s = .next (s.takeFromQueue.sends (replyFrame kind tag .wrongMode []))

/-- R16, R106: in OFFLINE a Class Table or Gas Table entry is replaced as a whole, an absent threshold stored as 900 and an
absent minimum yield as 60,000, or undefined, and the reply is DONE with the entry as stored. -/
def Obligations.TableEntriesAreStored : Prop :=
  ∀ (tag : Byte) (s : State), s.link.mode = .offline →
    (∀ (n : Fin 32) (circuit foam : Option GasIndex) (weight : Nat) (threshold minimum : Option Nat),
      let payload := leBytes 1 n.val ++ [0x01#8] ++ optional 1 (circuit.map (·.val)) ++ optional 1 (foam.map (·.val))
        ++ leBytes 2 weight ++ optional 2 threshold ++ optional 4 minimum
      let entry : ClassEntry := ⟨circuit, foam, weight, threshold.getD 900, minimum.getD 60000⟩
      s.TurnOf ⟨0x05#8, tag, payload⟩ → (∀ g, circuit = some g → s.gases[g] ≠ none) →
      (∀ g, foam = some g → s.gases[g] ≠ none) → weight ≤ 20000 → (∀ x, threshold = some x → x ≤ 1000) →
      (∀ x, minimum = some x → x ≤ 200000) →
      exec (.setClassEntry tag payload) s
        = .next (({ s.takeFromQueue with
              tracker := { s.tracker with classes := s.tracker.classes.set n (some entry) } } : State).sends
            (replyFrame 0x05#8 tag .done (leBytes 1 n.val ++ classEntryBytes (some entry)))))
    ∧ (∀ (n : Fin 32) (unused : List Byte), unused.length = 14 →
      s.TurnOf ⟨0x05#8, tag, leBytes 1 n.val ++ [0x00#8] ++ unused⟩ →
      exec (.setClassEntry tag (leBytes 1 n.val ++ [0x00#8] ++ unused)) s
        = .next (({ s.takeFromQueue with
              tracker := { s.tracker with classes := s.tracker.classes.set n none } } : State).sends
            (replyFrame 0x05#8 tag .done (leBytes 1 n.val ++ List.replicate 15 0x00#8))))
    ∧ (∀ (g : GasIndex) (e : GasEntry),
      let payload := leBytes 1 g.val ++ [0x01#8] ++ e.name ++ leBytes 1 (familyCode e.family) ++ leBytes 2 e.density
        ++ indicator e.lfl.isSome ++ optional 2 e.lfl
      s.TurnOf ⟨0x20#8, tag, payload⟩ → e.name.length = 16 →
      (∀ c ∈ e.name, 0x20 ≤ c.toNat ∧ c.toNat ≤ 0x7E) → 1000 ≤ e.density → e.density ≤ 9999 →
      (∀ l, e.lfl = some l → 1000 ≤ l ∧ l ≤ 60000) →
      exec (.setGasEntry tag payload) s
        = .next (({ s.takeFromQueue with gases := s.gases.set g (some e) } : State).sends
            (replyFrame 0x20#8 tag .done payload)))
    ∧ (∀ (g : GasIndex) (unused : List Byte), unused.length = 23 →
      s.TurnOf ⟨0x20#8, tag, leBytes 1 g.val ++ [0x00#8] ++ unused⟩ →
      exec (.setGasEntry tag (leBytes 1 g.val ++ [0x00#8] ++ unused)) s
        = .next (({ s.takeFromQueue with gases := s.gases.set g none } : State).sends
            (replyFrame 0x20#8 tag .done (leBytes 1 g.val ++ List.replicate 24 0x00#8))))

/-- R25, R58, R70, R100, R101, R107, R133, R148, R164, R168: the queries answer DONE with what they read, in replies of the
lengths of 11.11 (less the status byte), or NOT_FOUND, in every line mode, and change nothing. The unit record, the charge
record and the replies of the receiver, the chamber, Protection, the image and the shift carry each field at its place of
11.5, 11.6, 11.9 and 11.11 (a figure beyond its field's width is taken modulo it; that the shift's counts and totals are kept
exactly and go out modulo 2^64 is the model's, DEDUCED, notes/assumptions/15.md). That QUERY_RECEIVER gives the weight of the
scan that the receiver took latest with the condition of its role at the latest publication is the model's too (DEDUCED,
notes/assumptions/10.md). READ_TRACE refuses a station above 3, a count above 32 and a start that is not held; else it returns
exactly count entries from the start, wrapping; that of an empty ring it returns the count 0, and that elapsed times are
rounded down, is DEDUCED (notes/assumptions/17.md). -/
def Obligations.QueriesAnswerAndChangeNothing : Prop :=
  (∀ (tag : Byte) (s : State),
    (∀ n : Nat, n < 2 ^ 32 → s.TurnOf ⟨0x03#8, tag, leBytes 4 n⟩ →
      exec (.queryUnit tag (leBytes 4 n)) s
        = .next (s.takeFromQueue.sends
            (match s.tracker.units.find? fun u => u.tag = n with
              | none => replyFrame 0x03#8 tag .notFound []
              | some u => replyFrame 0x03#8 tag .done u.bytes)))
    ∧ (∀ f : Family, s.TurnOf ⟨0x12#8, tag, leBytes 1 (familyCode f)⟩ →
      exec (.queryReceiver tag (leBytes 1 (familyCode f))) s
        = .next (s.takeFromQueue.sends (replyFrame 0x12#8 tag .done (s.receiverBytes f))))
    ∧ (∀ n : Nat, n < 65536 → s.TurnOf ⟨0x1C#8, tag, leBytes 2 n⟩ →
      exec (.readCharge tag (leBytes 2 n)) s
        = .next (s.takeFromQueue.sends
            (match s.chamber.history.reverse.find? fun r => r.number = n with
              | none => replyFrame 0x1C#8 tag .notFound []
              | some r => replyFrame 0x1C#8 tag .done r.bytes)))
    ∧ (s.TurnOf ⟨0x1D#8, tag, []⟩ →
      exec (.queryChamber tag []) s
        = .next (s.takeFromQueue.sends (replyFrame 0x1D#8 tag .done s.chamber.queryBytes)))
    ∧ (s.TurnOf ⟨0x22#8, tag, []⟩ →
      exec (.queryArithmetic tag []) s
        = .next (s.takeFromQueue.sends (replyFrame 0x22#8 tag .done
            (s.gases.toList.flatMap gasEntryBytes ++ leBytes 2 s.deadBand ++ leBytes 2 s.maximumBaseline))))
    ∧ (s.TurnOf ⟨0x24#8, tag, []⟩ →
      exec (.readShift tag []) s = .next (s.takeFromQueue.sends (replyFrame 0x24#8 tag .done s.shift.bytes)))
    ∧ (s.TurnOf ⟨0x2B#8, tag, []⟩ →
      exec (.queryProtection tag []) s
        = .next (s.takeFromQueue.sends (replyFrame 0x2B#8 tag .done s.protectionBytes)))
    ∧ (s.TurnOf ⟨0x35#8, tag, []⟩ →
      exec (.queryImage tag []) s = .next (s.takeFromQueue.sends (replyFrame 0x35#8 tag .done s.imageBytes)))
    ∧ s.shift.bytes.length = 266 ∧ s.protectionBytes.length = 20 ∧ s.imageBytes.length = 495)
  ∧ (∀ (tag a b c : Byte) (s : State), s.TurnOf ⟨0x0F#8, tag, [a, b, c]⟩ →
    (3 < a.toNat ∨ 32 < c.toNat →
      exec (.readTrace tag [a, b, c]) s = .next (s.takeFromQueue.sends (replyFrame 0x0F#8 tag .outOfRange [])))
    ∧ ∀ i : StationNo, a.toNat = i.val → c.toNat ≤ 32 →
      ((s.station i).trace = [] →
        exec (.readTrace tag [a, b, c]) s
          = .next (s.takeFromQueue.sends (replyFrame 0x0F#8 tag .done [0x00#8, 0x00#8])))
      ∧ ((s.station i).trace ≠ [] → (s.station i).trace.length ≤ b.toNat →
        exec (.readTrace tag [a, b, c]) s = .next (s.takeFromQueue.sends (replyFrame 0x0F#8 tag .outOfRange [])))
      ∧ (b.toNat < (s.station i).trace.length →
        ∃ entries : List (List Byte),
          exec (.readTrace tag [a, b, c]) s
            = .next (s.takeFromQueue.sends (replyFrame 0x0F#8 tag .done
                (leBytes 1 (s.station i).trace.length ++ [c] ++ entries.flatten)))
          ∧ entries.length = c.toNat
          ∧ ∀ k, k < c.toNat → ∃ x,
              (s.station i).trace[(b.toNat + k) % (s.station i).trace.length]? = some x
                ∧ entries[k]? = some (traceBytes ((b.toNat + k) % (s.station i).trace.length) x)))
  ∧ (∀ u : UnitRecord, u.bytes.length = 50 ∧ field u.bytes 0 4 = u.tag % 4294967296
    ∧ field u.bytes 4 2 = u.admission % 65536 ∧ field u.bytes 6 1 = u.cls % 256 ∧ field u.bytes 7 1 = u.state.code
    ∧ hasOptional u.bytes 8 2 u.nameplate ∧ hasOptional u.bytes 11 2 u.foamWeight
    ∧ hasOptional u.bytes 14 1 (u.station.map (·.val)) ∧ field u.bytes 16 1 = (if u.degas.isSome then 1 else 0)
    ∧ (u.degas = none → ∀ k, 17 ≤ k → k ≤ 33 → field u.bytes k 1 = 0)
    ∧ (∀ d, u.degas = some d → field u.bytes 17 4 = d.recovered % 4294967296 ∧ hasSigned u.bytes 21 4 d.finalPressure
        ∧ ((∀ r, d.lastRise = some r → -2147483648 ≤ r ∧ r ≤ 2147483647) → hasOptionalSigned u.bytes 25 4 d.lastRise)
        ∧ field u.bytes 30 1 = d.reevacuations % 256 ∧ field u.bytes 31 2 = d.cycleTime % 65536
        ∧ field u.bytes 33 1 = d.station.val)
    ∧ hasOptional u.bytes 34 2 u.charge ∧ hasOptional u.bytes 37 4 u.share ∧ field u.bytes 42 1 = u.anomalies.length % 256
    ∧ (∀ k, k < 4 → field u.bytes (43 + k) 1 = ((u.anomalies[k]?).map Anomaly.code).getD 0)
    ∧ field u.bytes 47 1 = (if u.truncated then 1 else 0) + (if u.severe then 2 else 0)
    ∧ hasOptional u.bytes 48 1 (u.verdict.map Verdict.code))
  ∧ (∀ r : ChargeRecord, r.bytes.length = 104 ∧ field r.bytes 0 2 = r.number % 65536 ∧ field r.bytes 2 1 = r.flags.mask
    ∧ field r.bytes 3 1 = familyCode r.mode ∧ field r.bytes 4 1 = r.gas.val ∧ field r.bytes 5 4 = r.period % 4294967296
    ∧ field r.bytes 9 4 = r.s % 4294967296 ∧ field r.bytes 13 4 = r.e % 4294967296
    ∧ field r.bytes 17 2 = r.baselineUsed % 65536 ∧ field r.bytes 19 4 = r.scansIntegrated % 4294967296
    ∧ field r.bytes 23 4 = r.heldScans % 4294967296 ∧ field r.bytes 27 4 = r.clampedScans % 4294967296
    ∧ field r.bytes 31 4 = r.mass % 4294967296 ∧ field r.bytes 35 4 = r.residue % 4294967296
    ∧ field r.bytes 39 1 = r.units.length % 256
    ∧ ∀ k, k < 8 → field r.bytes (40 + 8 * k) 4 = ((r.units[k]?).map (·.1)).getD 0 % 4294967296
        ∧ field r.bytes (44 + 8 * k) 4 = ((r.units[k]?).map (·.2)).getD 0 % 4294967296)
  ∧ (∀ (f : Family) (s : State),
    let body := s.receiverBytes f
    let r := s.receiver f
    let c := r.standing.cylinder
    let stations (p : Station → Bool) : Nat :=
      (allStations.filter fun i => decide ((s.station i).family = some f) && p (s.station i)).length
    body.length = 82 ∧ field body 0 1 = r.standing.name.code ∧ field body 1 4 = r.fillLimit % 4294967296
    ∧ field body 5 1 = (s.latestReading (roleReceiverWeight f)).condition.code ∧ hasOptionalSigned body 6 4 r.weight
    ∧ hasOptionalSigned body 11 8 (c.bind fun x => r.weight.map fun w => w - (x.tare : Int))
    ∧ field body 20 1 = (if c.isSome then 1 else 0) ∧ field body 21 4 = (c.map (·.serial)).getD 0 % 4294967296
    ∧ field body 25 4 = (c.map (·.tare)).getD 0 % 4294967296
    ∧ field body 29 8 = (c.map (·.delivered)).getD 0 % 2 ^ 64
    ∧ field body 37 8 = (c.map (·.delivered)).getD 0 / 1000000 % 2 ^ 64
    ∧ field body 45 1 = (if r.lastClosed.isSome then 1 else 0)
    ∧ (∀ x, r.lastClosed = some x → field body 46 4 = x.serial % 4294967296 ∧ field body 50 4 = x.tare % 4294967296
        ∧ hasOptionalSigned body 54 8 x.netWeighed ∧ field body 63 8 = x.delivered % 2 ^ 64
        ∧ hasOptionalSigned body 71 8 x.difference)
    ∧ (r.lastClosed = none → ∀ k, 46 ≤ k → k ≤ 79 → field body k 1 = 0)
    ∧ field body 80 1 = stations (fun st => st.state = .evacuating)
    ∧ field body 81 1 = stations (fun st => st.state = .suspended && st.causes.receiver))
  ∧ (∀ c : Chamber,
    let body := c.queryBytes
    body.length = 99 ∧ field body 0 1 = c.standing.code ∧ hasOptional body 1 1 (c.standing.phase.map Phase.code)
    ∧ field body 3 1 = (if c.stopPending then 1 else 0) ∧ hasSettings body 4 c.inForce
    ∧ field body 18 4 = (c.inForce.x + 1) * c.inForce.b % 4294967296 ∧ hasSettings body 22 c.staged
    ∧ field body 36 1 = (if c.stagingPending then 1 else 0)
    ∧ field body 37 1 = (if c.staged.mode ≠ c.inForce.mode ∨ c.staged.gas ≠ c.inForce.gas then 1 else 0)
    ∧ field body 38 2 = c.counter % 65536 ∧ field body 40 2 = c.baseline % 65536
    ∧ field body 42 1 = (if c.baselineHigh then 1 else 0) ∧ field body 43 1 = c.limits.inertPermit % 256
    ∧ field body 44 2 = c.limits.inertTimeout % 65536 ∧ field body 46 2 = c.limits.ventLevel % 65536
    ∧ field body 48 2 = c.limits.ventTimeout % 65536
    ∧ ((∀ x, c.standing ≠ .charging x) → ∀ k, 50 ≤ k → k ≤ 98 → field body k 1 = 0)
    ∧ ∀ x, c.standing = .charging x →
      field body 50 1 = 1 ∧ field body 51 2 = x.number % 65536 ∧ field body 53 1 = (if x.flags.void then 1 else 0)
      ∧ field body 54 1 = x.units.length % 256
      ∧ (∀ k, k < 8 → field body (55 + 4 * k) 4 = (x.units[k]?).getD 0 % 4294967296)
      ∧ field body 87 4 = x.index % 4294967296
      ∧ hasOptional body 91 2 (if x.phase = .inertWait ∨ x.phase = .ventWait then some (x.waitElapsed / 10000) else none)
      ∧ field body 94 4 = min (x.mass / 1000000) 4294967295 ∧ field body 98 1 = x.flags.mask)
  ∧ (∀ s : State,
    let body := s.protectionBytes
    let lfl : Option Nat := (s.gases[s.chamber.inForce.gas]).bind (·.lfl)
    field body 0 1 = s.link.mode.code ∧ field body 1 1 = s.protection.causes.mask
    ∧ field body 2 1 = (if s.link.mode = .offline ∧ s.protection.causes.requestedTrip = true then 1 else 0)
    ∧ field body 3 1 = s.protection.limits.loadTripPercent % 256 ∧ field body 4 1 = s.protection.limits.oxygenTrip % 256
    ∧ field body 5 1 = s.protection.limits.clearPercent % 256 ∧ field body 6 2 = s.protection.limits.clearHold % 65536
    ∧ hasOptional body 8 2 (lfl.map fun n => n * s.protection.limits.loadTripPercent / 100)
    ∧ hasOptional body 11 2 (lfl.map fun n => n * s.protection.limits.clearPercent / 100)
    ∧ hasOptional body 14 4 (s.protection.clearHold.map fun m => min ((s.now - m) / 1000) 4294967295)
    ∧ field body 19 1 = (if s.link.mode = .tripped
        ∧ (∃ m ∈ s.protection.clearHold, s.protection.limits.clearHold * 10000 ≤ s.now - m) then 1 else 0))
  ∧ (∀ s : State,
    let body := s.imageBytes
    let c := s.scanner
    hasOptional body 0 2 (c.published.map (·.sequence)) ∧ field body 3 4 = (c.published.map (·.elapsed)).getD 0 % 4294967296
    ∧ (∀ i : CellNo,
        let cell := ((c.published.map fun x => x.cells[i]).getD ⟨0, .unsettled⟩)
        hasSigned body (7 + 5 * i.val) 4 cell.value ∧ field body (11 + 5 * i.val) 1 = cell.mark.code)
    ∧ field body 247 2 = c.settlingRemaining % 65536
    ∧ (∀ n : SlotNo,
        let x := c.slots[n]
        let place := 249 + 10 * n.val
        field body place 1 = n.val ∧ field body (place + 1) 1 = (if x.enabled then 1 else 0)
        ∧ field body (place + 2) 1 = x.address % 256 ∧ field body (place + 3) 1 = x.firstValue % 256
        ∧ field body (place + 4) 1 = x.count % 256 ∧ field body (place + 5) 1 = x.misses % 256
        ∧ field body (place + 6) 1 = x.status.code ∧ field body (place + 7) 1 = (if x.allocation.isSome then 1 else 0)
        ∧ field body (place + 8) 1 = (x.allocation.map (·.first)).getD 0 % 256
        ∧ field body (place + 9) 1 = (x.allocation.map (·.granted)).getD 0 % 256)
    ∧ (∀ r : RoleNo,
        hasOptional body (369 + 7 * r.val) 1 ((c.roles[r]).binding.map (·.val))
        ∧ field body (371 + 7 * r.val) 1 = (s.latestReading r).condition.code
        ∧ hasSigned body (372 + 7 * r.val) 4 (s.latestReading r).value)
    ∧ field body 488 4 = c.divisor % 4294967296 ∧ field body 492 1 = c.holdLimit % 256
    ∧ field body 493 2 = c.settlingCount % 65536)
  ∧ (∀ a : Shift, field a.bytes 0 2 = a.number % 65536
    ∧ (∀ v : Verdict, field a.bytes (2 + 8 * v.code) 8 = a.verdicts[v.place] % 2 ^ 64)
    ∧ (∀ g : GasIndex, field a.bytes (42 + 8 * g.val) 8 = a.refrigerant[g] % 2 ^ 64
        ∧ field a.bytes (106 + 8 * g.val) 8 = a.attributed[g] % 2 ^ 64
        ∧ field a.bytes (170 + 8 * g.val) 8 = a.unattributed[g] % 2 ^ 64)
    ∧ field a.bytes 234 8 = a.abandoned % 2 ^ 64 ∧ field a.bytes 242 8 = a.trips % 2 ^ 64
    ∧ field a.bytes 250 8 = a.charges % 2 ^ 64 ∧ field a.bytes 258 8 = a.voidCharges % 2 ^ 64)

/-! ## Units -/

/-- R23, R2, R3: an accepted ADMIT_UNIT creates the record, ADMITTED at the tail of the Degas Queue for a class with a circuit
gas, else SHRED_QUEUED at the tail of the Shred Queue, where an empty queue's new head makes the chamber decide (R82). The
arbiter then makes its pass, and the reply carries the admission number and the state the record was created in. Refused, its
checks come in their order, and nothing changes. That the notices of the charge and of the pass come before the stations'
STATION_STATE is the model's choice (notes/assumptions/9.md). -/
def Obligations.AdmitUnitChecksAndCreates : Prop :=
  (∀ (tag : Byte) (o : AdmitOperands) (n : Fin 32) (c : ClassEntry) (s : State), s.TurnOf ⟨0x01#8, tag, o.bytes⟩ →
    s.link.mode = .running → 1 ≤ o.tag → o.tag < 2 ^ 32 → o.cls = n.val → s.tracker.classes[n] = some c →
    (∀ g, c.circuitGas = some g → s.gases[g] ≠ none) → (∀ g, c.foamGas = some g → s.gases[g] ≠ none) →
    (∀ x, o.nameplate = some x → 1 ≤ x ∧ x ≤ 2000) → (∀ x, o.foamWeight = some x → 1 ≤ x ∧ x ≤ 20000) →
    (∀ u ∈ s.tracker.units, u.tag ≠ o.tag) → s.tracker.units.length < 64 →
    let unit (x : UnitState) : UnitRecord :=
      { tag := o.tag, admission := s.tracker.admissionCounter, cls := n.val, nameplate := o.nameplate
        foamWeight := o.foamWeight, state := x, station := none, degas := none, charge := none, share := none
        anomalies := [], truncated := false, severe := false, verdict := none }
    let next := if s.tracker.admissionCounter = 65535 then 1 else s.tracker.admissionCounter + 1
    let reply (x : UnitState) := replyFrame 0x01#8 tag .done (leBytes 2 s.tracker.admissionCounter ++ leBytes 1 x.code)
    (c.circuitGas ≠ none →
      exec (.admitUnit tag o.bytes) s
        = .next (((({ s.takeFromQueue with
              tracker := { s.tracker with
                units := s.tracker.units ++ [unit .admitted], admissionCounter := next
                degasQueue := s.tracker.degasQueue ++ [o.tag] } } : State).arbiterPass).noteStations s.stations).sends
            (reply .admitted)))
    ∧ (c.circuitGas = none →
      let created : State :=
        { s.takeFromQueue with
          tracker := { s.tracker with
            units := s.tracker.units ++ [unit .shredQueued], admissionCounter := next
            shredQueue := s.tracker.shredQueue ++ [o.tag] } }
      let decided := if s.tracker.shredQueue = [] then created.waitingDecision else created
      exec (.admitUnit tag o.bytes) s = .next ((decided.arbiterPass.noteStations s.stations).sends (reply .shredQueued))))
  ∧ (∀ (tag : Byte) (o : AdmitOperands) (s : State), s.TurnOf ⟨0x01#8, tag, o.bytes⟩ → o.tag < 2 ^ 32 → o.cls < 256 →
    (∀ x, o.nameplate = some x → x < 65536) → (∀ x, o.foamWeight = some x → x < 65536) →
    let outside : Prop :=
      o.tag = 0 ∨ 31 < o.cls ∨ (∃ n : Fin 32, o.cls = n.val ∧ s.tracker.classes[n] = none)
        ∨ (∃ (n : Fin 32) (c : ClassEntry) (g : GasIndex), o.cls = n.val ∧ s.tracker.classes[n] = some c
            ∧ (c.circuitGas = some g ∨ c.foamGas = some g) ∧ s.gases[g] = none)
        ∨ (∃ x, o.nameplate = some x ∧ (x < 1 ∨ 2000 < x)) ∨ ∃ x, o.foamWeight = some x ∧ (x < 1 ∨ 20000 < x)
    let answer (st : Status) : Prop :=
      exec (.admitUnit tag o.bytes) s = .next (s.takeFromQueue.sends (replyFrame 0x01#8 tag st []))
    (s.link.mode ≠ .running → answer .wrongMode)
    ∧ (s.link.mode = .running → outside → answer .outOfRange)
    ∧ (s.link.mode = .running → ¬ outside → (∃ u ∈ s.tracker.units, u.tag = o.tag) → answer .duplicateTag)
    ∧ (s.link.mode = .running → ¬ outside → (∀ u ∈ s.tracker.units, u.tag ≠ o.tag) → 64 ≤ s.tracker.units.length →
        answer .tableFull))

/-- R24, R26. WITHDRAW_UNIT by the state of the record held under the tag (an ASSIGNED one with the station it names). TAKE_CLOSED
returns the records of the first tags of the Closed List, up to eight, and frees them. That the pass's UNIT_ASSIGNED comes before
the stations' STATION_STATE is the model's choice (notes/assumptions/9.md). -/
def Obligations.WithdrawAndTakeFreeRecords : Prop :=
  (∀ (tag : Byte) (n : Nat) (s : State), n < 2 ^ 32 → s.TurnOf ⟨0x02#8, tag, leBytes 4 n⟩ →
    let left := s.tracker.units.filter fun u => u.tag ≠ n
    let answer (t : State) (st : Status) : Prop :=
      exec (.withdrawUnit tag (leBytes 4 n)) s = .next (t.sends (replyFrame 0x02#8 tag st []))
    ((∀ u ∈ s.tracker.units, u.tag ≠ n) → answer s.takeFromQueue .notFound)
    ∧ ∀ u, (s.tracker.units.find? fun u => u.tag = n) = some u →
      (u.state = .admitted →
        answer { s.takeFromQueue with
          tracker := { s.tracker with units := left, degasQueue := s.tracker.degasQueue.erase n } } .done)
      ∧ (∀ i, u.state = .assigned → u.station = some i →
        answer (((({ s.takeFromQueue with tracker := { s.tracker with units := left } } : State).setStation i
            { s.station i with state := .idle, unit := none, family := none, causes := .empty }).arbiterPass).noteStations
              s.stations) .done)
      ∧ (u.state = .shredQueued →
        let freed : State :=
          { s.takeFromQueue with
            tracker := { s.tracker with units := left, shredQueue := s.tracker.shredQueue.erase n } }
        answer (if s.tracker.shredQueue.head? = some n then freed.waitingDecision else freed) .done)
      ∧ (u.state ∈ [UnitState.degassing, .degassed, .inCharge, .closed] → answer s.takeFromQueue .wrongState))
  ∧ (∀ (tag : Byte) (s : State), s.TurnOf ⟨0x04#8, tag, []⟩ →
    let tags := s.tracker.closedList.take 8
    let records := tags.filterMap fun n => s.tracker.units.find? fun u => u.tag = n
    exec (.takeClosed tag []) s
      = .next (({ s.takeFromQueue with
            tracker := { s.tracker with
              units := s.tracker.units.filter fun u => u.tag ∉ tags
              closedList := s.tracker.closedList.drop 8 } } : State).sends
          (replyFrame 0x04#8 tag .done (leBytes 1 records.length ++ records.flatMap UnitRecord.bytes))))

/-- R21, R22: the arbiter's pass, made only in RUNNING. The eligible tags of the Degas Queue, oldest first, are paired with the IDLE
stations in number order. Each tag so paired leaves the queue, its record becomes ASSIGNED with that station, the station is
ASSIGNED to it, and UNIT_ASSIGNED is raised, pair by pair; the tags that are left keep their order, and nothing else changes. After
the pass no IDLE station is left together with a waiting unit whose receiver is IN_USE. -/
def Obligations.ArbiterLeavesNothingToAssign : Prop :=
  ∀ s : State, (s.link.mode ≠ .running → s.arbiterPass = s)
    ∧ (s.link.mode = .running →
      ((∀ i, (s.arbiterPass.station i).state ≠ .idle)
        ∨ ∀ n ∈ s.arbiterPass.tracker.degasQueue, s.arbiterPass.eligible n = false)
      ∧ s.arbiterPass.tracker.degasQueue.Sublist s.tracker.degasQueue
      ∧ ∀ i j, i.val < j.val → (s.station i).state = .idle → (s.arbiterPass.station i).state = .idle →
          s.arbiterPass.station j = s.station j)
    ∧ (∀ (n : Nat) (u : UnitRecord), s.findUnit n = some u →
      (s.eligible n = true ↔ ∃ (k : Fin 32) (c : ClassEntry) (g : GasIndex) (e : GasEntry) (y : Cylinder), u.cls = k.val
        ∧ s.tracker.classes[k] = some c ∧ c.circuitGas = some g ∧ s.gases[g] = some e
        ∧ (s.receiver e.family).standing = .inUse y))
    ∧ (s.link.mode = .running → s.tracker.degasQueue.Nodup →
      let pairs : List (Nat × StationNo) :=
        (s.tracker.degasQueue.filter s.eligible).zip (allStations.filter fun i => (s.station i).state = .idle)
      s.arbiterPass
        = pairs.foldl (fun t p => t.raise (.unitAssigned p.1 p.2))
            { s with
              tracker := { s.tracker with
                degasQueue := s.tracker.degasQueue.filter fun n => (pairs.find? fun p => p.1 = n).isNone
                units := s.tracker.units.map fun u =>
                  match pairs.find? fun p => p.1 = u.tag with
                  | none => u
                  | some p => { u with state := .assigned, station := some p.2 } }
              stations := Vector.ofFn fun i : StationNo =>
                match pairs.find? fun p => p.2 = i with
                | none => s.station i
                | some p =>
                  { s.station i with state := .assigned, unit := some p.1, family := s.familyOfUnit p.1 } })

/-- R6: what a reported anomaly does to a record: a new kind joins the list at its end while it holds fewer than four, else the
truncated indicator becomes yes; a severe kind sets the severe indicator; a CLOSED record and every other record stay. -/
def Obligations.AnomaliesAreApplied : Prop :=
  ∀ (n : Nat) (a : Anomaly) (s : State),
    let after (u : UnitRecord) : UnitRecord :=
      { u with
        anomalies := if a ∈ u.anomalies ∨ 4 ≤ u.anomalies.length then u.anomalies else u.anomalies ++ [a]
        truncated := u.truncated || decide (a ∉ u.anomalies ∧ 4 ≤ u.anomalies.length)
        severe := u.severe
          || decide (a ∈ [Anomaly.suspendExpired, .aborted, .pulled, .stationSignalLost, .chargeTruncated, .chargeSignalLost]) }
    s.reportFrom (some n) a
      = { s with
          tracker := { s.tracker with
            units := s.tracker.units.map fun u => if u.tag = n ∧ u.state ≠ .closed then after u else u } }

/-! ## Degassing stations -/

/-- R43, R44 with R42 and R36: SUSPEND_STATION and RESUME_STATION. -/
def Obligations.StationsSuspendAndResume : Prop :=
  (∀ (tag b : Byte) (s : State), s.CausesHeld → s.TurnOf ⟨0x08#8, tag, [b]⟩ →
    let answer (t : State) (st : Status) : Prop :=
      exec (.suspendStation tag [b]) s = .next (t.sends (replyFrame 0x08#8 tag st []))
    (3 < b.toNat → answer s.takeFromQueue .outOfRange)
    ∧ ∀ i : StationNo, b.toNat = i.val →
      (s.link.mode = .offline → answer s.takeFromQueue .ignored)
      ∧ (s.link.mode ≠ .offline → (s.station i).state = .evacuating →
        answer ((s.takeFromQueue.setStation i
          { s.station i with state := .suspended, causes := ⟨true, false, false⟩, suspElapsed := 0 }).reports i) .done)
      ∧ (s.link.mode ≠ .offline → (s.station i).state = .suspended → (s.station i).causes.requested = false →
        answer ((s.takeFromQueue.setStation i
          { s.station i with causes := { (s.station i).causes with requested := true } }).reports i) .done)
      ∧ (s.link.mode ≠ .offline → (s.station i).state = .suspended → (s.station i).causes.requested = true →
        answer s.takeFromQueue .ignored)
      ∧ (s.link.mode ≠ .offline → (s.station i).state ≠ .evacuating → (s.station i).state ≠ .suspended →
        answer s.takeFromQueue .ignored))
  ∧ (∀ (tag b : Byte) (s : State), s.CausesHeld → s.TurnOf ⟨0x09#8, tag, [b]⟩ →
    let answer (t : State) (st : Status) : Prop :=
      exec (.resumeStation tag [b]) s = .next (t.sends (replyFrame 0x09#8 tag st []))
    (3 < b.toNat → answer s.takeFromQueue .outOfRange)
    ∧ ∀ i : StationNo, b.toNat = i.val →
      (s.link.mode = .tripped → answer s.takeFromQueue .wrongMode)
      ∧ (s.link.mode = .offline → answer s.takeFromQueue .ignored)
      ∧ (s.link.mode = .running → (s.station i).causes.requested = false → answer s.takeFromQueue .ignored)
      ∧ (s.link.mode = .running → (s.station i).causes.requested = true →
        ((s.station i).causes.receiver = true ∨ (s.station i).causes.trip = true →
          answer ((s.takeFromQueue.setStation i
            { s.station i with causes := { (s.station i).causes with requested := false } }).reports i) .done)
        ∧ ((s.station i).causes = ⟨true, false, false⟩ → s.receiverBlocks i = false →
          answer ((s.takeFromQueue.setStation i
            { s.station i with state := .evacuating, causes := .empty }).reports i) .done)
        ∧ ((s.station i).causes = ⟨true, false, false⟩ → s.receiverBlocks i = true →
          answer ((s.takeFromQueue.setStation i
            { s.station i with causes := ⟨false, true, false⟩ }).reports i) .done)))

/-- R51: ABORT_STATION. -/
def Obligations.AbortStationEndsTheCycle : Prop :=
  ∀ (tag b : Byte) (s : State), s.TurnOf ⟨0x0A#8, tag, [b]⟩ →
    let answer (t : State) (st : Status) : Prop :=
      exec (.abortStation tag [b]) s = .next (t.sends (replyFrame 0x0A#8 tag st []))
    (3 < b.toNat → answer s.takeFromQueue .outOfRange)
    ∧ ∀ i : StationNo, b.toNat = i.val →
      ((s.station i).state ∈ [StationState.piercing, .evacuating, .suspended, .holding] →
        answer (((s.takeFromQueue.reportFrom (s.station i).unit .aborted).setStation i
          { s.station i with state := .releasing, causes := .empty, phaseTimer := 0 }).reports i) .done)
      ∧ ((s.station i).state ∈ [StationState.idle, .assigned, .releasing, .unloading, .faulted, .locked] →
        answer s.takeFromQueue .wrongState)

/-- R52, R53, R54: LOCK_STATION, UNLOCK_STATION and RESET_STATION. A number above 3 names no station (2.10). That the notices of the
arbiter's pass come before the stations' STATION_STATE is the model's choice (notes/assumptions/9.md). -/
def Obligations.StationsAreLockedUnlockedAndReset : Prop :=
  (∀ (tag b : Byte) (i : StationNo) (s : State), b.toNat = i.val →
    (s.TurnOf ⟨0x0B#8, tag, [b]⟩ →
      let answer (t : State) (st : Status) : Prop :=
        exec (.lockStation tag [b]) s = .next (t.sends (replyFrame 0x0B#8 tag st []))
      ((s.station i).state = .idle ∨ (s.station i).state = .faulted →
        answer ((s.takeFromQueue.setStation i { s.station i with state := .locked }).reports i) .done)
      ∧ ((s.station i).state = .locked → answer s.takeFromQueue .ignored)
      ∧ ((s.station i).state ∉ [StationState.idle, .faulted, .locked] → answer s.takeFromQueue .wrongState))
    ∧ (s.TurnOf ⟨0x0C#8, tag, [b]⟩ →
      let answer (t : State) (st : Status) : Prop :=
        exec (.unlockStation tag [b]) s = .next (t.sends (replyFrame 0x0C#8 tag st []))
      let unbound : Prop := ∃ r : RoleNo, r.val < 12 ∧ r.val % 4 = i.val ∧ (s.scanner.roles[r]).binding = none
      ((s.station i).state = .locked → s.link.mode ≠ .offline → unbound → answer s.takeFromQueue .missingBinding)
      ∧ ((s.station i).state = .locked → (s.link.mode = .offline ∨ ¬ unbound) →
        answer (((s.takeFromQueue.setStation i
          { s.station i with state := .idle, latch := none }).arbiterPass).noteStations s.stations) .done)
      ∧ ((s.station i).state ≠ .locked → answer s.takeFromQueue .wrongState)))
  ∧ (∀ (tag b : Byte) (s : State), 3 < b.toNat →
    (s.TurnOf ⟨0x0B#8, tag, [b]⟩ →
      exec (.lockStation tag [b]) s = .next (s.takeFromQueue.sends (replyFrame 0x0B#8 tag .outOfRange [])))
    ∧ (s.TurnOf ⟨0x0C#8, tag, [b]⟩ →
      exec (.unlockStation tag [b]) s = .next (s.takeFromQueue.sends (replyFrame 0x0C#8 tag .outOfRange []))))
  ∧ (∀ (tag b : Byte) (s : State), s.TurnOf ⟨0x0D#8, tag, [b]⟩ →
    let answer (t : State) (st : Status) : Prop :=
      exec (.resetStation tag [b]) s = .next (t.sends (replyFrame 0x0D#8 tag st []))
    (3 < b.toNat → answer s.takeFromQueue .outOfRange)
    ∧ ∀ i : StationNo, b.toNat = i.val →
      ((s.station i).state = .faulted →
        answer (((s.takeFromQueue.setStation i
          { s.station i with state := .idle, latch := none }).arbiterPass).noteStations s.stations) .done)
      ∧ ((s.station i).state ≠ .faulted → answer s.takeFromQueue .wrongState))

/-- R35 with R36: the end of the pierce time, the ticks still missing to it passing with it (notes/assumptions/2.md). -/
def Obligations.PierceTimeEndTestsTheCircuit : Prop :=
  ∀ (i : StationNo) (s : State), s.CausesHeld → (s.station i).state = .piercing →
    s.mayPass (s.timing.pierceTime * 1000 - (s.station i).phaseTimer) = true →
    let t := s.elapse (s.timing.pierceTime * 1000 - (s.station i).phaseTimer)
    ((s.station i).latestPressure ≤ (s.timing.emptyThreshold : Int) →
      exec (.pierceTimeEnd i) s
        = .next (((t.reportFrom (s.station i).unit .emptyCircuit).setStation i
            { s.station i with state := .releasing, causes := .empty, phaseTimer := 0 }).reports i).settle)
    ∧ ((s.timing.emptyThreshold : Int) < (s.station i).latestPressure →
      let blocked : Causes :=
        ⟨false, s.receiverBlocks i,
          decide (s.link.mode = .tripped ∧ (s.station i).family = some Family.hydrocarbon)⟩
      (blocked = .empty →
        exec (.pierceTimeEnd i) s
          = .next ((t.setStation i { t.station i with state := .evacuating, evacElapsed := 0 }).reports i).settle)
      ∧ (blocked ≠ .empty →
        exec (.pierceTimeEnd i) s
          = .next ((t.setStation i
              { t.station i with state := .suspended, evacElapsed := 0, suspElapsed := 0, causes := blocked }).reports
                i).settle))

/-- R38, R47: the expiry of the evacuation limit and of the suspend limit, one tick after the limit is reached
(notes/assumptions/2.md). R40, R9: the end of the release time: the degas result composed from the station's record goes to its
unit, which becomes DEGASSED if it is DEGASSING, and the station goes to UNLOADING. -/
def Obligations.StationTimersEndPhases : Prop :=
  (∀ (i : StationNo) (s : State),
    ((s.station i).state = .evacuating → s.mayPass (s.timing.evacLimit * 10000 + 1 - (s.station i).evacElapsed) = true →
      let t := s.elapse (s.timing.evacLimit * 10000 + 1 - (s.station i).evacElapsed)
      exec (.evacuationLimitExpiry i) s
        = .next (((t.reportFrom (s.station i).unit .vacuumNotReached).setStation i
            { t.station i with state := .releasing, causes := .empty, phaseTimer := 0 }).reports i).settle)
    ∧ ((s.station i).state = .suspended → s.mayPass (s.timing.suspendLimit * 10000 + 1 - (s.station i).suspElapsed) = true →
      let t := s.elapse (s.timing.suspendLimit * 10000 + 1 - (s.station i).suspElapsed)
      exec (.suspendLimitExpiry i) s
        = .next (((t.reportFrom (s.station i).unit .suspendExpired).setStation i
            { t.station i with state := .releasing, causes := .empty, phaseTimer := 0 }).reports i).settle))
  ∧ (∀ (i : StationNo) (s : State), (s.station i).state = .releasing → s.mayPass (20000 - (s.station i).phaseTimer) = true →
    let t := s.elapse (20000 - (s.station i).phaseTimer)
    let result : DegasResult :=
      { recovered := min ((s.station i).accumulator / 1000000) 4294967295
        finalPressure := (s.station i).latestPressure, lastRise := (s.station i).lastRise
        reevacuations := (s.station i).reevacuations
        cycleTime := min ((t.now - (s.station i).cycleStart) / 1000) 65535, station := i }
    exec (.releaseTimeEnd i) s
      = .next ((({ t with
            tracker := { s.tracker with
              units := s.tracker.units.map fun u =>
                if some u.tag = (s.station i).unit ∧ u.state = .degassing then { u with degas := some result, state := .degassed } else u } }
            : State).setStation i { t.station i with state := .unloading }).reports i).settle)

/-- R39 with R36: the end of the hold time, the ticks still missing to it passing with it (notes/assumptions/2.md). -/
def Obligations.HoldTimeEndTestsTheRise : Prop :=
  ∀ (i : StationNo) (s : State), s.CausesHeld → (s.station i).state = .holding →
    s.mayPass (s.timing.holdTime * 10000 - (s.station i).phaseTimer) = true →
    let t := s.elapse (s.timing.holdTime * 10000 - (s.station i).phaseTimer)
    let rise := (s.station i).latestPressure - (s.station i).holdStart
    (rise ≤ (s.timing.riseLimit : Int) →
      exec (.holdTimeEnd i) s
        = .next ((t.setStation i
            { s.station i with state := .releasing, causes := .empty, phaseTimer := 0, lastRise := some rise }).reports
              i).settle)
    ∧ ((s.timing.riseLimit : Int) < rise → 2 ≤ (s.station i).reevacuations →
      exec (.holdTimeEnd i) s
        = .next (((t.reportFrom (s.station i).unit .residualRise).setStation i
            { s.station i with state := .releasing, causes := .empty, phaseTimer := 0, lastRise := some rise }).reports
              i).settle)
    ∧ ((s.timing.riseLimit : Int) < rise → (s.station i).reevacuations < 2 →
      let blocked : Causes :=
        ⟨false, s.receiverBlocks i,
          decide (s.link.mode = .tripped ∧ (s.station i).family = some Family.hydrocarbon)⟩
      let again : Station :=
        { t.station i with
          lastRise := some rise, reevacuations := (s.station i).reevacuations + 1, evacElapsed := 0 }
      (blocked = .empty →
        exec (.holdTimeEnd i) s = .next ((t.setStation i { again with state := .evacuating }).reports i).settle)
      ∧ (blocked ≠ .empty →
        exec (.holdTimeEnd i) s
          = .next ((t.setStation i
              { again with state := .suspended, causes := blocked, suspElapsed := 0 }).reports i).settle))

/-- R32, R37, R39, R49, R57, R62, R109, R110, R112: a published scan that carries no change of presence, the last seen presence
known or not yet. At a station that is EVACUATING with no role LOST it is integrated, traced and tested for vacuum, and its
increment delivered to the cylinder, which may be FULL. In PIERCING, SUSPENDED and HOLDING with no role LOST the latest pressure is
kept. At a station at work with a role LOST the cycle ends: STATION_SIGNAL_LOST, the latch if it is absent, and RELEASING; nothing
is integrated. In the other states only the presence is seen. -/
def Obligations.StationScanIntegratesOrEnds : Prop :=
  ∀ (i : StationNo) (x : Scan) (s : State), scanFor (.station i) s.toTake = some x →
    let presence := x.role (roleStationPresence i)
    let seen : Option Bool :=
      if presence.condition = .valid ∨ presence.condition = .held then some (decide (presence.value ≠ 0))
      else (s.station i).lastSeen
    let pressure := (x.role (roleStationPressure i)).value
    let lost : Prop :=
      ∃ r ∈ [roleStationFlow i, roleStationPressure i, roleStationPresence i], (x.role r).condition = .lost
    (s.station i).lastSeen = none ∨ seen = (s.station i).lastSeen →
    (∀ (f : Family) (c : Cylinder) (stands : Cylinder → ReceiverStanding), (stands = .inUse ∨ stands = .full) →
      (s.station i).state = .evacuating → (s.station i).family = some f → (s.receiver f).standing = stands c → ¬ lost →
      (s.station i).trace.length ≤ 32 →
      let limitedFlow := limited 20000 (x.role (roleStationFlow i)).value
      let flow := if limitedFlow < s.deadBand then 0 else limitedFlow
      let due := s.timing.traceInterval ≤ (s.station i).traceCount + 1
      let entry : TraceEntry := ⟨min ((s.now - (s.station i).cycleStart) / 1000) 65535, pressure, flow⟩
      let reached := pressure ≤ (s.timing.vacuumTarget : Int)
      ∃ t : State, exec (.stationScan i) s = .next t
        ∧ t.station i = { s.station i with
            lastSeen := seen
            accumulator := min ((s.station i).accumulator + flow * x.elapsed * 100) 18446744073709551615
            latestPressure := pressure
            traceCount := if due then 0 else (s.station i).traceCount + 1
            trace := if due then ((s.station i).trace ++ [entry]).drop ((s.station i).trace.length - 31)
              else (s.station i).trace
            state := if reached then .holding else .evacuating
            holdStart := if reached then pressure else (s.station i).holdStart
            phaseTimer := if reached then 0 else (s.station i).phaseTimer }
        ∧ (∀ j, j ≠ i → t.station j = s.station j)
        ∧ t.receiver f = { s.receiver f with
            standing := stands { c with delivered := min (c.delivered + flow * x.elapsed * 100) 18446744073709551615 } }
        ∧ (∀ g, g ≠ f → t.receiver g = s.receiver g)
        ∧ t.toTake = withoutScanFor (.station i) s.toTake
        ∧ t.link.mode = s.link.mode ∧ t.link.requests = s.link.requests ∧ t.link.enables = s.link.enables
        ∧ t.pins.evac[i] = !decide reached ∧ t.pins.needle[i] = true
        ∧ t = { s with
            stations := t.stations, receiverF := t.receiverF, receiverH := t.receiverH, toTake := t.toTake, link := t.link
            pins := t.pins })
    ∧ ((s.station i).state ∈ [StationState.piercing, .suspended, .holding] → ¬ lost →
      exec (.stationScan i) s
        = .next ((s.taking (.station i)).setStation i
            { s.station i with lastSeen := seen, latestPressure := pressure }).settle)
    ∧ ((s.station i).state ∈ [StationState.piercing, .evacuating, .suspended, .holding] → lost →
      exec (.stationScan i) s
        = .next ((((s.taking (.station i)).reportFrom (s.station i).unit .stationSignalLost).setStation i
            { s.station i with
              lastSeen := seen, state := .releasing, causes := .empty, phaseTimer := 0
              latch := some ((s.station i).latch.getD .signalLost) }).reports i).settle)
    ∧ ((s.station i).state ∈ [StationState.idle, .assigned, .releasing, .unloading, .faulted, .locked] →
      exec (.stationScan i) s
        = .next ((s.taking (.station i)).setStation i { s.station i with lastSeen := seen }).settle)

/-- R32 to R34, R41, R48 to R50, R8, R10, R11: what a change of presence at a published scan does: the arrival that begins a cycle
(and ends it at once when a role is LOST there), the stray arrival, the removal of the degassed appliance, and the pull; with the
unit's record, its place and the Shred Queue. That a pull comes before the same scan's other work (notes/assumptions/29.md), that
the manual does not order it and a signal loss (notes/assumptions/18.md), and that the stations' STATION_STATE comes after the
event's other notices (notes/assumptions/9.md), are the model's. -/
def Obligations.PresenceChangesMoveTheStation : Prop :=
  ∀ (i : StationNo) (x : Scan) (b : Bool) (s : State), scanFor (.station i) s.toTake = some x →
    (x.role (roleStationPresence i)).condition ∈ [Condition.valid, .held] → ((x.role (roleStationPresence i)).value ≠ 0 ↔ b = true) →
    (s.station i).lastSeen = some (!b) →
    let started (s : State) : State :=
      { s with
        tracker := { s.tracker with
          units := s.tracker.units.map fun u =>
            if some u.tag = (s.station i).unit ∧ u.state = .assigned then { u with state := .degassing } else u } }
    let left (n : Nat) (change : UnitRecord → UnitRecord) (s : State) : State :=
      let t : State :=
        { s with
          tracker := { s.tracker with
            shredQueue := s.tracker.shredQueue ++ [n]
            units := s.tracker.units.map fun u =>
              if u.tag = n then { change u with state := .shredQueued, station := none } else u } }
      if s.tracker.shredQueue = [] then t.waitingDecision else t
    let result : DegasResult :=
      { recovered := min ((s.station i).accumulator / 1000000) 4294967295
        finalPressure := (s.station i).latestPressure, lastRise := (s.station i).lastRise
        reevacuations := (s.station i).reevacuations
        cycleTime := min ((s.now - (s.station i).cycleStart) / 1000) 65535, station := i }
    let gone (x : StationState) (st : Station) : Station :=
      { st with lastSeen := some false, unit := none, family := none, state := x }
    ∃ t : State, exec (.stationScan i) s = .next t ∧ (t.station i).lastSeen = some b
      ∧ (∀ n u, b = false → (s.station i).unit = some n → (s.tracker.units.find? fun u => u.tag = n) = some u →
        ((s.station i).state = .unloading → u.state = .degassed →
          let removed := left n id (s.taking (.station i))
          t = (if (s.station i).latch = none then
              ((removed.setStation i (gone .idle (s.station i))).arbiterPass.noteStations s.stations).settle
            else ((removed.setStation i (gone .faulted (s.station i))).noteStations s.stations).settle))
        ∧ ((s.station i).state ∈ [StationState.piercing, .evacuating, .suspended, .holding, .releasing] →
          u.state = .degassing → signalLostAt i x = false ∨ (s.station i).state = .releasing →
          let pulled := left n (fun u => { u with degas := some (u.degas.getD result) })
            ((s.taking (.station i)).reportFrom (some n) .pulled)
          t = ((pulled.setStation i
              { gone .faulted (s.station i) with
                causes := .empty, latch := some ((s.station i).latch.getD .pulled) }).reports i).settle)
        ∧ ((s.station i).state ∈ [StationState.piercing, .evacuating, .suspended, .holding] → u.state = .degassing →
          signalLostAt i x = true → ∃ lossFirst : Bool,
          let before := if lossFirst then (s.taking (.station i)).reportFrom (some n) .stationSignalLost
            else s.taking (.station i)
          let pulled := left n (fun u => { u with degas := some (u.degas.getD result) }) (before.reportFrom (some n) .pulled)
          t = ((pulled.setStation i
              { gone .faulted (s.station i) with
                causes := .empty, phaseTimer := if lossFirst then 0 else (s.station i).phaseTimer
                latch := some ((s.station i).latch.getD (if lossFirst then .signalLost else .pulled)) }).reports i).settle))
      ∧ (b = true → (s.station i).state = .assigned → signalLostAt i x = false →
        t.station i = { s.station i with
            lastSeen := some true, state := .piercing, cycleStart := s.now, phaseTimer := 0, evacElapsed := 0
            suspElapsed := 0, reevacuations := 0, traceCount := 0, accumulator := 0, lastRise := none, trace := []
            latestPressure := (x.role (roleStationPressure i)).value }
          ∧ t.tracker = (started s).tracker)
      ∧ (b = true → (s.station i).state = .assigned → signalLostAt i x = true →
        t.station i = { s.station i with
            lastSeen := some true, state := .releasing, cycleStart := s.now, phaseTimer := 0, evacElapsed := 0
            suspElapsed := 0, reevacuations := 0, traceCount := 0, accumulator := 0, lastRise := none, trace := []
            latestPressure := (x.role (roleStationPressure i)).value, causes := .empty
            latch := some ((s.station i).latch.getD .signalLost) }
          ∧ t.tracker = ((started s).reportFrom (s.station i).unit .stationSignalLost).tracker)
      ∧ (b = true → (s.station i).state ∈ [StationState.idle, .faulted, .locked] →
        t = (((s.taking (.station i)).setStation i { s.station i with lastSeen := some true }).raise
              (.strayUnit i (s.station i).state)).settle)
      ∧ (b = false → (s.station i).state ∈ [StationState.idle, .assigned, .faulted, .locked] →
        t = ((s.taking (.station i)).setStation i { s.station i with lastSeen := some false }).settle)
      ∧ (b = false → (s.station i).state = .unloading → (s.station i).latch ≠ none →
        t.station i = { s.station i with lastSeen := some false, unit := none, family := none, state := .faulted })
      ∧ (b = false → (s.station i).state = .unloading → (s.station i).latch = none →
        t.station i = { s.station i with lastSeen := some false, unit := none, family := none, state := .idle }
          ∨ (s.link.mode = .running ∧ (t.station i).state = .assigned ∧ (t.station i).unit ≠ none))
      ∧ (b = false → (s.station i).state ∈ [StationState.piercing, .evacuating, .suspended, .holding, .releasing] →
        t.pins.needle[i] = false ∧ t.pins.evac[i] = false ∧ ∃ (timer : Nat) (first : FaultLatch),
          t.station i = { s.station i with
            lastSeen := some false, state := .faulted, unit := none, family := none, causes := .empty, phaseTimer := timer
            latch := some ((s.station i).latch.getD first) }
          ∧ (signalLostAt i x = false ∨ (s.station i).state = .releasing →
            timer = (s.station i).phaseTimer ∧ first = .pulled))
      ∧ (s.link.mode ≠ .running ∨ (s.station i).state ≠ .unloading ∨ (s.station i).latch ≠ none →
        ∀ j, j ≠ i → t.station j = s.station j)
      ∧ t.shift = s.shift ∧ t.protection = s.protection ∧ t.scanner = s.scanner ∧ t.sample = s.sample
      ∧ (b = false ∨ (s.station i).state ≠ .evacuating → t.receiverF = s.receiverF ∧ t.receiverH = s.receiverH)
      ∧ t.link.mode = s.link.mode

/-! ## Recovery receivers -/

/-- R63, R64, R45, R69: a published scan at a receiver. It keeps the weight and the condition it was read under; at or above the
fill limit an IN_USE receiver becomes FULL, hands RECEIVER to the EVACUATING stations of its family, and nothing else changes.
That every scan is compared with the fill limit held when the receiver takes it, also one published before SET_FILL_LIMIT (R71:
the next published scan), is the model's choice (notes/assumptions/30.md). -/
def Obligations.ReceiverScanDetectsTheFill : Prop :=
  ∀ (f : Family) (x : Scan) (s : State), s.CausesHeld → scanFor (.receiver f) s.toTake = some x →
    let reading := x.role (roleReceiverWeight f)
    let read := decide (reading.condition = .valid ∨ reading.condition = .held)
    let weighed : Receiver :=
      { s.receiver f with
        weight := if read then some reading.value else none, weightCondition := some reading.condition }
    let full (c : Cylinder) : Prop := read = true ∧ ((s.receiver f).fillLimit : Int) ≤ reading.value - (c.tare : Int)
    ((∀ c, (s.receiver f).standing = .inUse c → ¬ full c) →
      exec (.receiverScan f) s = .next ((s.taking (.receiver f)).setReceiver f weighed).settle)
    ∧ ∀ c, (s.receiver f).standing = .inUse c → full c →
      ∃ t : State, exec (.receiverScan f) s = .next t ∧ t.receiver f = { weighed with standing := .full c }
        ∧ (∀ g, g ≠ f → t.receiver g = s.receiver g)
        ∧ (∀ i, t.station i =
            if (s.station i).state = .evacuating ∧ (s.station i).family = some f then
              { s.station i with state := .suspended, causes := ⟨false, true, false⟩, suspElapsed := 0 }
            else s.station i)
        ∧ t.link.mode = s.link.mode ∧ t.link.requests = s.link.requests ∧ t.link.enables = s.link.enables
        ∧ t = { s with
            stations := t.stations, receiverF := t.receiverF, receiverH := t.receiverH
            toTake := withoutScanFor (.receiver f) s.toTake, link := t.link, pins := t.pins }

/-- R66, R67, R69: BEGIN_SWAP. R68, R42, R36: END_SWAP. The new cylinder stands on the scale at the VALID current weight; the
stations of the family lose RECEIVER, and one whose set that empties evacuates again, unless it is an H station in a trip;
every other station that is not IDLE stays as it is. Then the arbiter makes its pass (R21), which gives the IDLE stations and
the tracker. The weight and its condition are those of the published scan that the receiver took latest (DEDUCED,
notes/assumptions/10.md), also after a BIND_SIGNAL of the weight role since (DEDUCED, notes/assumptions/11.md). -/
def Obligations.SwapsCloseAndBeginCylinders : Prop :=
  (∀ (tag : Byte) (f : Family) (s : State), s.TurnOf ⟨0x10#8, tag, leBytes 1 (familyCode f)⟩ →
    let answer (t : State) (st : Status) (body : List Byte) : Prop :=
      exec (.beginSwap tag (leBytes 1 (familyCode f))) s = .next (t.sends (replyFrame 0x10#8 tag st body))
    let evacuating : Prop := ∃ i, (s.station i).state = .evacuating ∧ (s.station i).family = some f
    ((s.receiver f).standing = .swapping ∨ evacuating → answer s.takeFromQueue .wrongState [])
    ∧ ∀ c, (s.receiver f).standing = .inUse c ∨ (s.receiver f).standing = .full c → ¬ evacuating →
      let net := (s.receiver f).weight.map fun w => w - (c.tare : Int)
      let closed : ClosedCylinder :=
        { serial := c.serial, tare := c.tare, netWeighed := net, delivered := c.delivered / 1000000
          difference := net.map fun n => n * 1000 - ((c.delivered / 1000000 : Nat) : Int) }
      answer ((s.takeFromQueue.setReceiver f { s.receiver f with standing := .swapping, lastClosed := some closed }).raise
        (.receiverState f .swapping none none none)) .done closed.bytes)
  ∧ (∀ (tag : Byte) (f : Family) (n : Nat) (s : State), n < 2 ^ 32 → s.CausesHeld →
    let payload := leBytes 1 (familyCode f) ++ leBytes 4 n
    s.TurnOf ⟨0x11#8, tag, payload⟩ →
    let refused (st : Status) : Prop :=
      exec (.endSwap tag payload) s = .next (s.takeFromQueue.sends (replyFrame 0x11#8 tag st []))
    ((s.receiver f).standing ≠ .swapping → refused .wrongState)
    ∧ ((s.receiver f).standing = .swapping →
      ((s.receiver f).weight = none ∨ (s.receiver f).weightCondition ≠ some .valid) → refused .notReady)
    ∧ ∀ w, (s.receiver f).standing = .swapping → (s.receiver f).weight = some w →
      (s.receiver f).weightCondition = some .valid →
      (w < 0 → refused .outOfRange)
      ∧ (0 ≤ w → ∃ t : State,
        exec (.endSwap tag payload) s
            = .next (t.sends (replyFrame 0x11#8 tag .done (leBytes 4 n ++ leBytes 4 w.toNat ++ leBytes 8 0)))
        ∧ t.receiver f = { s.receiver f with standing := .inUse ⟨n, w.toNat, 0⟩ }
        ∧ (∀ g, g ≠ f → t.receiver g = s.receiver g)
        ∧ (∀ i, (s.station i).state = .suspended → (s.station i).family = some f →
            (s.station i).causes.receiver = true →
            ((s.station i).causes ≠ ⟨false, true, false⟩ →
              t.station i = { s.station i with causes := { (s.station i).causes with receiver := false } })
            ∧ ((s.station i).causes = ⟨false, true, false⟩ → (s.link.mode ≠ .tripped ∨ f = .fluorinated) →
              t.station i = { s.station i with state := .evacuating, causes := .empty })
            ∧ ((s.station i).causes = ⟨false, true, false⟩ → s.link.mode = .tripped → f = .hydrocarbon →
              t.station i = { s.station i with causes := ⟨false, false, true⟩ }))
        ∧ (∀ i, (s.station i).state ≠ .suspended ∨ (s.station i).family ≠ some f ∨ (s.station i).causes.receiver = false →
            (s.station i).state ≠ .idle → t.station i = s.station i)
        ∧ (s.link.mode ≠ .running → t.tracker = s.tracker ∧ ∀ i, (s.station i).state = .idle → t.station i = s.station i)
        ∧ (∃ u : State, t.tracker = u.arbiterPass.tracker ∧ t.stations = u.arbiterPass.stations
          ∧ u.receiver f = { s.receiver f with standing := .inUse ⟨n, w.toNat, 0⟩ } ∧ u.link.mode = s.link.mode
          ∧ (∀ i, (s.station i).state = .idle → u.station i = s.station i)
          ∧ (∀ i, (s.station i).state ≠ .idle → u.station i = t.station i)
          ∧ u = { s with
              stations := u.stations, receiverF := t.receiverF, receiverH := t.receiverH, link := u.link })
        ∧ t = { s with
            stations := t.stations, tracker := t.tracker, receiverF := t.receiverF, receiverH := t.receiverH
            link := t.link }))

/-! ## The shredding chamber -/

/-- R77, R82: STAGE_CHAMBER_SETTINGS. R81, R84, R85, R79: START_CHAMBER begins a void charge in LOAD at a boundary, and STOP_CHAMBER
stops a WAITING chamber or makes the stop pending. -/
def Obligations.ChamberIsStagedStartedAndStopped : Prop :=
  (∀ (tag : Byte) (o : SettingsOperands) (s : State), s.TurnOf ⟨0x18#8, tag, o.bytes⟩ → o.gas < 256 → o.b < 65536 →
    o.x < 256 → o.s < 2 ^ 32 → o.e < 2 ^ 32 → o.k < 256 →
    let answer (t : State) (st : Status) (body : List Byte) : Prop :=
      exec (.stageChamberSettings tag o.bytes) s = .next (t.sends (replyFrame 0x18#8 tag st body))
    (s.link.mode = .tripped → answer s.takeFromQueue .wrongMode [])
    ∧ (s.link.mode ≠ .tripped →
      (7 < o.gas ∨ ∃ g : GasIndex, o.gas = g.val ∧ ∀ e, s.gases[g] = some e → e.family ≠ o.mode) →
      answer s.takeFromQueue .outOfRange [])
    ∧ ∀ (g : GasIndex) (e : GasEntry), s.link.mode ≠ .tripped → o.gas = g.val → s.gases[g] = some e → e.family = o.mode →
      let staged : ChamberSettings :=
        { mode := o.mode, gas := g, b := max 256 (min o.b 16384), x := min o.x 15, s := o.s, e := o.e
          k := max 1 (min o.k 8) }
      let kept : State :=
        { s.takeFromQueue with chamber := { s.chamber with staged := staged, stagingPending := true } }
      answer (if s.chamber.standing = .waiting then kept.waitingDecision else kept)
        (if 256 ≤ o.b ∧ o.b ≤ 16384 ∧ o.x ≤ 15 ∧ 1 ≤ o.k ∧ o.k ≤ 8 then .staged else .clamped) staged.bytes)
  ∧ (∀ (tag : Byte) (s : State),
    (s.TurnOf ⟨0x19#8, tag, []⟩ →
      let refused (st : Status) : Prop :=
        exec (.startChamber tag []) s = .next (s.takeFromQueue.sends (replyFrame 0x19#8 tag st []))
      let suits : Prop := ∃ e, s.gases[s.chamber.staged.gas] = some e ∧ e.family = s.chamber.staged.mode
      (s.link.mode ≠ .running → refused .wrongMode)
      ∧ (s.link.mode = .running → s.chamber.standing ≠ .stopped → refused .wrongState)
      ∧ (s.link.mode = .running → s.chamber.standing = .stopped → ¬ suits → refused .notReady)
      ∧ (s.link.mode = .running → s.chamber.standing = .stopped → suits →
        let number := if s.chamber.counter = 65535 then 65535 else s.chamber.counter + 1
        ∃ t : State, exec (.startChamber tag []) s = .next (t.sends (replyFrame 0x19#8 tag .done (leBytes 2 number)))
          ∧ t.chamber = { s.chamber with
              standing := .charging
                { number := number, phase := .load, units := [], index := 0, waitElapsed := 0, mass := 0, residue := 0
                  baselineUsed := s.chamber.baseline, scansIntegrated := 0, heldScans := 0, clampedScans := 0
                  flags := ⟨true, false, false, s.chamber.baselineHigh, false⟩
                  tailSum := 0, tailCount := 0, tailClean := true, vented := false }
              inForce := s.chamber.staged.legalised, stagingPending := false, startPending := false, counter := number }
          ∧ t.tracker = s.tracker ∧ t.stations = s.stations
          ∧ t = { s.takeFromQueue with chamber := t.chamber, tracker := t.tracker, link := t.link }))
    ∧ (s.TurnOf ⟨0x1A#8, tag, []⟩ →
      let answer (t : State) (st : Status) : Prop :=
        exec (.stopChamber tag []) s = .next (t.sends (replyFrame 0x1A#8 tag st []))
      (s.chamber.standing = .waiting →
        answer { s.takeFromQueue with chamber := { s.chamber with standing := .stopped, lastMismatch := none } } .done)
      ∧ (∀ c, s.chamber.standing = .charging c → s.chamber.stopPending = false →
        answer { s.takeFromQueue with chamber := { s.chamber with stopPending := true } } .staged)
      ∧ (∀ c, s.chamber.standing = .charging c → s.chamber.stopPending = true → answer s.takeFromQueue .ignored)
      ∧ (s.chamber.standing = .stopped ∨ s.chamber.standing = .halted → answer s.takeFromQueue .ignored)))

/-- R78: the legal window. Whatever was staged, with B at least 256, S and E become multiples of 8 with 16 ≤ S, S + 64 ≤ E and
E ≤ P − 32; a window that is legal already is kept. And every step keeps the staged B, X and K in their ranges and the window in
force legal (R77, R78). -/
def Obligations.WindowIsMadeLegal : Prop :=
  (∀ c : ChamberSettings, 256 ≤ c.b →
    (16 ≤ c.legalised.s ∧ c.legalised.s + 64 ≤ c.legalised.e ∧ c.legalised.e + 32 ≤ (c.x + 1) * c.b
      ∧ c.legalised.s % 8 = 0 ∧ c.legalised.e % 8 = 0)
    ∧ c.legalised = { c with s := c.legalised.s, e := c.legalised.e }
    ∧ (16 ≤ c.s → c.s + 64 ≤ c.e → c.e + 32 ≤ (c.x + 1) * c.b → c.s % 8 = 0 → c.e % 8 = 0 → c.legalised = c))
  ∧ ∀ s t : State, s.WindowHeld → step s = .next t → t.WindowHeld

/-- R85, R86, R12: a boundary without a start or a transition pending loads the loadable units at the head of the Shred Queue, at
most K, and begins their charge. R79: with a start or a mode transition pending it begins a void charge, which loads none. R82,
R83: the waiting decision of a WAITING chamber, and the mismatch report of an unloadable head, made once for each distinct
unit. -/
def Obligations.BoundaryLoadsFromTheHead : Prop :=
  (∀ (s : State) (n : Nat) (u : UnitRecord) (k : Fin 32) (c : ClassEntry), (s.tracker.units.find? fun u => u.tag = n) = some u →
    u.cls = k.val → s.tracker.classes[k] = some c →
    (s.loadable n = true ↔ c.foamGas = none ∨ c.foamGas = some s.chamber.inForce.gas))
  ∧ (∀ s : State,
    let starts : Prop := s.chamber.startPending = true
    let transition : Prop :=
      s.chamber.staged.mode ≠ s.chamber.inForce.mode ∨ s.chamber.staged.gas ≠ s.chamber.inForce.gas
    let number := if s.chamber.counter = 65535 then 65535 else s.chamber.counter + 1
    let begun (void : Bool) (loaded : List Nat) : Chamber :=
      { s.chamber with
        standing := .charging
          { number := number, phase := .load, units := loaded, index := 0, waitElapsed := 0, mass := 0, residue := 0
            baselineUsed := s.chamber.baseline, scansIntegrated := 0, heldScans := 0, clampedScans := 0
            flags := ⟨void, false, false, s.chamber.baselineHigh, false⟩
            tailSum := 0, tailCount := 0, tailClean := true, vented := false }
        inForce := s.chamber.staged.legalised, stagingPending := false, startPending := false, counter := number }
    s.boundary = { s with tracker := s.boundary.tracker, chamber := s.boundary.chamber, link := s.boundary.link }
    ∧ (¬ starts → ¬ transition →
      ∃ loaded left : List Nat, s.tracker.shredQueue = loaded ++ left ∧ loaded.length ≤ s.chamber.staged.k
        ∧ (∀ n ∈ loaded, s.loadable n = true)
        ∧ (∀ n, left.head? = some n → loaded.length < s.chamber.staged.k → s.loadable n = false)
        ∧ s.boundary.tracker = { s.tracker with
            shredQueue := left
            units := s.tracker.units.map fun u =>
              if u.tag ∈ loaded then { u with state := .inCharge, charge := some number } else u }
        ∧ s.boundary.chamber = begun false loaded)
    ∧ (starts ∨ transition → s.boundary.tracker = s.tracker ∧ s.boundary.chamber = begun true [])
    ∧ (s.chamber.standing ≠ .waiting → s.waitingDecision = s)
    ∧ (s.chamber.standing = .waiting → transition → s.waitingDecision = s.boundary)
    ∧ (s.chamber.standing = .waiting → ¬ transition → s.tracker.shredQueue = [] → s.waitingDecision = s)
    ∧ ∀ n rest, s.chamber.standing = .waiting → ¬ transition → s.tracker.shredQueue = n :: rest →
      (s.loadable n = true → s.waitingDecision = s.boundary)
      ∧ ∀ (u : UnitRecord) (k : Fin 32) (c : ClassEntry) (g : GasIndex), s.loadable n = false →
        (s.tracker.units.find? fun u => u.tag = n) = some u → u.cls = k.val → s.tracker.classes[k] = some c →
        c.foamGas = some g →
        s.waitingDecision
          = if s.chamber.lastMismatch = some (n, u.admission) then s
            else ({ s with chamber := { s.chamber with lastMismatch := some (n, u.admission) } } : State).raise
              (.modeMismatch n g s.chamber.inForce.mode s.chamber.inForce.gas))

/-- R87, R88, R91, R92, R141: a published scan in LOAD, INERT_WAIT or TAIL; and in STOPPED, WAITING or HALTED. The last TAIL scan
makes the period test: the charge ends, or enters VENT_WAIT. In H mode a LOST or ABSENT concentration in TAIL is handed to
Protection, and no period test is made at that scan (DEDUCED, notes/assumptions/24.md). -/
def Obligations.ChamberScanCountsThePhases : Prop :=
  ∀ (x : Scan) (s : State), scanFor .chamber s.toTake = some x →
    let oxygen := x.role roleChamberOxygen
    let inert := decide ((oxygen.condition = .valid ∨ oxygen.condition = .held)
      ∧ oxygen.value ≤ (s.chamber.limits.inertPermit : Int))
    let conc := x.role roleChamberConc
    let becomes (c : Charge) : Prop :=
      exec .chamberScan s = .next ((s.taking .chamber).setChamber { s.chamber with standing := .charging c }).settle
    let clear : Prop := (conc.condition = .valid ∨ conc.condition = .held)
      ∧ limited 60000 conc.value < s.chamber.limits.ventLevel
    let tested (c : Charge) : Prop :=
      (c.index ≠ s.chamber.inForce.period → becomes c)
      ∧ (c.index = s.chamber.inForce.period → clear → exec .chamberScan s = .next ((s.taking .chamber).endNormally c).settle)
      ∧ (c.index = s.chamber.inForce.period → ¬ clear → becomes { c with phase := .ventWait, waitElapsed := 0, vented := true })
    (∀ c, s.chamber.standing = .charging c →
      (c.phase = .load → c.index + 1 ≠ s.chamber.inForce.s → becomes { c with index := c.index + 1 })
      ∧ (c.phase = .load → c.index + 1 = s.chamber.inForce.s →
        (s.chamber.inForce.mode = .fluorinated ∨ inert = true → becomes { c with index := c.index + 1, phase := .window })
        ∧ (s.chamber.inForce.mode = .hydrocarbon → inert = false →
          becomes { c with index := c.index + 1, phase := .inertWait, waitElapsed := 0 }))
      ∧ (c.phase = .inertWait → becomes (if inert then { c with phase := .window } else c))
      ∧ (c.phase = .tail → (conc.condition = .valid ∨ conc.condition = .held) →
        let clamped := decide (conc.value < 0 ∨ 60000 < conc.value)
        tested { c with
          index := c.index + 1, tailSum := c.tailSum + limited 60000 conc.value, tailCount := c.tailCount + 1
          clampedScans := c.clampedScans + (if clamped then 1 else 0)
          flags := { c.flags with clampedScans := c.flags.clampedScans || clamped } })
      ∧ (c.phase = .tail → s.chamber.inForce.mode = .fluorinated → (conc.condition = .lost ∨ conc.condition = .absent) →
        tested { c with index := c.index + 1, tailClean := false, flags := { c.flags with signalLost := true } })
      ∧ (c.phase = .tail → s.chamber.inForce.mode = .hydrocarbon → (conc.condition = .lost ∨ conc.condition = .absent) →
        exec .chamberScan s
          = .next (((s.taking .chamber).setChamber
              { s.chamber with standing := .charging { c with index := c.index + 1, tailClean := false } }).addCauses
                ⟨false, false, true, false, false, false⟩).settle))
    ∧ (s.chamber.standing = .stopped ∨ s.chamber.standing = .waiting ∨ s.chamber.standing = .halted →
      exec .chamberScan s = .next (s.taking .chamber).settle)

/-- R90, R92, R113 to R115: a published scan in WINDOW or VENT_WAIT integrated: the product of flow, elapsed ticks, effective
concentration and density factor, the residue carried, the counts and the flags; and in H mode, with a signal LOST or ABSENT,
the cause handed to Protection instead, with no count raised, the clamped count among them (DEDUCED,
notes/assumptions/24.md). -/
def Obligations.ChamberScanIntegrates : Prop :=
  ∀ (x : Scan) (c : Charge) (gas : GasEntry) (s : State), scanFor .chamber s.toTake = some x →
    s.chamber.standing = .charging c → (c.phase = .window ∨ c.phase = .ventWait) →
    s.gases[s.chamber.inForce.gas] = some gas →
    let flow := x.role roleChamberFlow
    let conc := x.role roleChamberConc
    let silent := decide (flow.condition = .lost ∨ flow.condition = .absent ∨ conc.condition = .lost
      ∨ conc.condition = .absent)
    let held := decide (flow.condition = .held ∨ conc.condition = .held)
    let clamped := decide (flow.value < 0 ∨ 30000 < flow.value ∨ conc.value < 0 ∨ 60000 < conc.value)
    let product := if silent then 0
      else min (limited 30000 flow.value * x.elapsed * (limited 60000 conc.value - c.baselineUsed) * gas.density)
        18446744073709551615
    let total := min (product + c.residue) 18446744073709551615
    let after : Charge :=
      { c with
        mass := min (c.mass + total / 100000) 18446744073709551615, residue := total % 100000
        scansIntegrated := c.scansIntegrated + 1, heldScans := c.heldScans + (if held then 1 else 0)
        clampedScans := c.clampedScans + (if clamped then 1 else 0)
        flags := { c.flags with
          signalLost := c.flags.signalLost || silent, clampedScans := c.flags.clampedScans || clamped } }
    let clear := decide ((conc.condition = .valid ∨ conc.condition = .held)
      ∧ limited 60000 conc.value < s.chamber.limits.ventLevel)
    let becomes (d : Charge) : State := (s.taking .chamber).setChamber { s.chamber with standing := .charging d }
    (s.chamber.inForce.mode = .fluorinated ∨ silent = false →
      exec .chamberScan s
        = .next (if c.phase = .window then
            becomes { after with
              index := c.index + 1, phase := if c.index + 1 = s.chamber.inForce.e then .tail else .window }
          else if clear then (s.taking .chamber).endNormally after
          else becomes after).settle)
    ∧ (s.chamber.inForce.mode = .hydrocarbon → silent = true →
      exec .chamberScan s
        = .next ((becomes { c with flags := { c.flags with signalLost := true } }).addCauses
            ⟨false, false, true, false, false, false⟩).settle)

/-- R94 to R96, R98, R99, R117, R119, R123: the end of a charge, normal or truncated: its record and its shares, its units
closed one after the other in load order (R13; each as ClosureJudgesAndCredits says), the history, the baseline and the Shift
Account's charge counts. R94, step 6: after a normal end a pending stop stops the chamber, else it is WAITING and makes the
waiting decision. -/
def Obligations.ChargeEndKeepsTheBooks : Prop :=
  (∀ (c : Charge) (s : State),
    let t := s.endCharge false c
    s.endNormally c
      = if s.chamber.stopPending then
          { t with chamber := { t.chamber with standing := .stopped, stopPending := false, lastMismatch := none } }
        else ({ t with chamber := { t.chamber with standing := .waiting } } : State).waitingDecision)
  ∧ ∀ (truncated : Bool) (c : Charge) (s : State), s.chamber.history.length ≤ 16 →
    let t := s.endCharge truncated c
    let mass := min (c.mass / 1000000) 4294967295
    let flags : ChargeFlags := { c.flags with truncated := c.flags.truncated || truncated }
    let weight (n : Nat) : Nat := ((s.tracker.units.find? fun u => u.tag = n).map fun u => s.weightOf u).getD 0
    let counted : Shift :=
      { s.shift with
        charges := s.shift.charges + 1, voidCharges := s.shift.voidCharges + (if c.flags.void then 1 else 0)
        unattributed :=
          if c.flags.void then
            s.shift.unattributed.set s.chamber.inForce.gas (s.shift.unattributed[s.chamber.inForce.gas] + mass)
          else s.shift.unattributed }
    (∃ r : ChargeRecord, t.chamber.history = (s.chamber.history ++ [r]).drop (s.chamber.history.length - 15)
      ∧ r.number = c.number ∧ r.flags = flags ∧ r.mode = s.chamber.inForce.mode ∧ r.gas = s.chamber.inForce.gas
      ∧ r.period = (s.chamber.inForce.x + 1) * s.chamber.inForce.b ∧ r.s = s.chamber.inForce.s
      ∧ r.e = s.chamber.inForce.e
      ∧ r.mass = mass ∧ r.residue = c.residue ∧ r.baselineUsed = c.baselineUsed
      ∧ r.scansIntegrated = c.scansIntegrated ∧ r.heldScans = c.heldScans ∧ r.clampedScans = c.clampedScans
      ∧ (c.flags.void = true → r.units = [])
      ∧ (c.flags.void = false → r.units.map (·.1) = c.units
          ∧ r.units.map (·.2) = shares mass (c.units.map weight)
          ∧ (c.units ≠ [] → (r.units.map (·.2)).sum = mass))
      ∧ t = ({ r.units.foldl (fun y e => y.closeUnit r e) { s with shift := counted } with chamber := t.chamber }
          : State).raise (.chargeEnd c.number flags mass r.units.length))
    ∧ t.shift.charges = s.shift.charges + 1
    ∧ t.shift.voidCharges = s.shift.voidCharges + (if c.flags.void then 1 else 0)
    ∧ (∀ g : GasIndex, t.shift.unattributed[g]
        = s.shift.unattributed[g] + (if c.flags.void ∧ g = s.chamber.inForce.gas then mass else 0))
    ∧ t.chamber = { s.chamber with
        baseline := t.chamber.baseline, baselineHigh := t.chamber.baselineHigh, history := t.chamber.history }
    ∧ (truncated = true ∨ c.vented = true ∨ c.tailClean = false →
        t.chamber.baseline = s.chamber.baseline ∧ t.chamber.baselineHigh = s.chamber.baselineHigh)
    ∧ (truncated = false → c.vented = false → c.tailClean = true →
        t.chamber.baseline = min (c.tailSum / c.tailCount) s.maximumBaseline
          ∧ t.chamber.baselineHigh = decide (s.maximumBaseline < c.tailSum / c.tailCount))
    ∧ t = { s with tracker := t.tracker, chamber := t.chamber, shift := t.shift, link := t.link }

/-! ## Accounting -/

/-- R120, R121: apportionment. -/
def Obligations.SharesFollowTheRemainders : Prop :=
  ∀ (mass : Nat) (weights : List Nat), weights ≠ [] →
    let total := weights.sum
    let n := weights.length
    let left := mass - (weights.map fun w => mass * w / total).sum
    (shares mass weights).length = n ∧ (shares mass weights).sum = mass
    ∧ (0 < total →
      left < n ∧ (weights.map fun w => mass * w / total).sum ≤ mass
      ∧ (weights.map fun w => mass * w % total).sum = left * total
      ∧ (0 < left → left < (weights.filter fun w => 0 < mass * w % total).length)
      ∧ ∀ j (h : j < n),
        let ahead := (List.range n).filter fun k =>
          mass * weights[j] % total < mass * (weights.getD k 0) % total
            ∨ (mass * weights[j] % total = mass * (weights.getD k 0) % total ∧ k < j)
        (shares mass weights)[j]? = some (mass * weights[j] / total + (if ahead.length < left then 1 else 0))
        ∧ (ahead.length < left → 0 < mass * weights[j] % total)
        ∧ (weights[j] = 0 → (shares mass weights)[j]? = some 0))
    ∧ (total = 0 → ∀ j, j < n → (shares mass weights)[j]? = some (mass / n + (if j < mass % n then 1 else 0)))

/-- R13, R6, R124 to R128: one unit of an ended charge closed: its figures, the anomalies the chamber reports, its verdict by
the first test it meets, the credits and UNIT_CLOSED (R129); every other record, the Degas and Shred Queues, the Class Table
and the admission counter stay. That CHARGE_TRUNCATED is applied before CHARGE_SIGNAL_LOST (notes/assumptions/28.md), and that
a unit with a circuit gas and a nameplate but without a degas result has no ratio and credits nothing
(notes/assumptions/16.md), are the model's choices. -/
def Obligations.ClosureJudgesAndCredits : Prop :=
  ∀ (r : ChargeRecord) (n share : Nat) (u : UnitRecord) (k : Fin 32) (c : ClassEntry) (s : State),
    (s.tracker.units.find? fun u => u.tag = n) = some u → u.state = .inCharge → u.cls = k.val →
    s.tracker.classes[k] = some c →
    let t := s.closeUnit r (n, share)
    let report (a : Anomaly) (u : UnitRecord) : UnitRecord :=
      { u with
        anomalies := if a ∈ u.anomalies ∨ 4 ≤ u.anomalies.length then u.anomalies else u.anomalies ++ [a]
        truncated := u.truncated || decide (a ∉ u.anomalies ∧ 4 ≤ u.anomalies.length)
        severe := true }
    let cut := if r.flags.truncated then report .chargeTruncated u else u
    let marked := if r.flags.signalLost then report .chargeSignalLost cut else cut
    let severe := u.severe || r.flags.truncated || r.flags.signalLost
    let weight := u.foamWeight.getD c.defaultFoamWeight
    let ratio : Option Nat :=
      if c.circuitGas = none then none
      else u.nameplate.bind fun g => u.degas.map fun d => min (d.recovered / g) 1999
    let yield : Option Nat := if c.foamGas = none ∨ weight = 0 then none else some (share * 1000 / weight)
    let verdict : Verdict :=
      if severe then .incomplete
      else if ratio.any (· < c.threshold) then .shortRecovery
      else if yield.any (· < c.minimumYield) then .lowFoamYield
      else if c.circuitGas ≠ none ∧ u.nameplate = none then .unreferenced
      else .accepted
    (∃ v : UnitRecord, (t.tracker.units.find? fun u => u.tag = n) = some v ∧ v.state = .closed ∧ v.share = some share
      ∧ v.verdict = some verdict ∧ v.severe = severe
      ∧ v = { marked with share := v.share, verdict := v.verdict, state := v.state }
      ∧ t.tracker = { s.tracker with
          units := s.tracker.units.map fun w => if w.tag = n then v else w
          closedList := s.tracker.closedList ++ [n] })
    ∧ (∀ v, v.tag ≠ n → (v ∈ t.tracker.units ↔ v ∈ s.tracker.units))
    ∧ t.tracker.closedList = s.tracker.closedList ++ [n] ∧ t.tracker.degasQueue = s.tracker.degasQueue
    ∧ t.tracker.shredQueue = s.tracker.shredQueue ∧ t.tracker.classes = s.tracker.classes
    ∧ t.tracker.admissionCounter = s.tracker.admissionCounter
    ∧ (∀ v : Verdict, t.shift.verdicts[v.place] = s.shift.verdicts[v.place] + (if v = verdict then 1 else 0))
    ∧ (∀ g : GasIndex, t.shift.attributed[g] = s.shift.attributed[g] + (if g = r.gas then share else 0))
    ∧ (∀ g : GasIndex, t.shift.refrigerant[g]
        = s.shift.refrigerant[g] + (if c.circuitGas = some g then (u.degas.map (·.recovered)).getD 0 else 0))
    ∧ t.shift = { s.shift with
        verdicts := t.shift.verdicts, attributed := t.shift.attributed, refrigerant := t.shift.refrigerant }
    ∧ t = ({ s with tracker := t.tracker, shift := t.shift } : State).raise
        (.unitClosed n u.admission r.number verdict ratio (yield.map fun y => min y 4294967295) share
          (u.degas.map (·.recovered)) severe)

/-- R134: CLOSE_SHIFT hands over the Shift Account and opens the next shift. -/
def Obligations.CloseShiftOpensTheNext : Prop :=
  ∀ (tag : Byte) (s : State), s.TurnOf ⟨0x25#8, tag, []⟩ →
    ∃ t : State, exec (.closeShift tag []) s
        = .next (t.sends (replyFrame 0x25#8 tag .done (s.shift.bytes ++ leBytes 2 t.shift.number)))
      ∧ t.shift.number = (if s.shift.number = 65535 then 1 else s.shift.number + 1)
      ∧ (∀ v, t.shift.verdicts[(v : Fin 5)] = 0)
      ∧ (∀ g : GasIndex, t.shift.refrigerant[g] = 0 ∧ t.shift.attributed[g] = 0 ∧ t.shift.unattributed[g] = 0)
      ∧ t.shift.abandoned = 0 ∧ t.shift.trips = 0 ∧ t.shift.charges = 0 ∧ t.shift.voidCharges = 0
      ∧ t = { s.takeFromQueue with shift := t.shift }

/-! ## Flammable Gas Protection -/

/-- R144, R142, R143: EMERGENCY_TRIP in each line mode. R89, R93, R141, R142: the expiry of the inert timeout and of the vent
timeout trip a RUNNING line, one tick after the timeout is reached (notes/assumptions/2.md). A charge that runs at the trip entry
ends TRUNCATED and its units are CLOSED (R96). -/
def Obligations.EmergencyAndTimeoutsTripTheLine : Prop :=
  (∀ (tag : Byte) (s : State), s.TurnOf ⟨0x29#8, tag, []⟩ →
    let set := s.protection.causes
    let all : TripCauses := { set with requestedTrip := true }
    (s.link.mode = .running → set = .empty →
      ∃ t : State, exec (.emergencyTrip tag []) s = .next (t.sends (replyFrame 0x29#8 tag .done []))
        ∧ TripEntered s.takeFromQueue t.settle ⟨false, false, false, false, false, true⟩)
    ∧ (s.link.mode = .tripped → set.requestedTrip = false →
      exec (.emergencyTrip tag []) s
        = .next ((({ s.takeFromQueue with protection := { s.protection with causes := all } } : State).raise
            (.trip ⟨false, false, false, false, false, true⟩ all false none)).sends (replyFrame 0x29#8 tag .done [])))
    ∧ (s.link.mode = .offline → set.requestedTrip = false →
      exec (.emergencyTrip tag []) s
        = .next (({ s.takeFromQueue with protection := { s.protection with causes := all } } : State).sends
            (replyFrame 0x29#8 tag .done [])))
    ∧ (s.link.mode ≠ .running → set.requestedTrip = true →
      exec (.emergencyTrip tag []) s = .next (s.takeFromQueue.sends (replyFrame 0x29#8 tag .ignored []))))
  ∧ (∀ (c : Charge) (s : State), s.chamber.standing = .charging c → s.link.mode = .running → s.protection.causes = .empty →
    (c.phase = .inertWait → s.mayPass (s.chamber.limits.inertTimeout * 10000 + 1 - c.waitElapsed) = true →
      ∃ t : State, exec .inertTimeoutExpiry s = .next t
        ∧ TripEntered (s.elapse (s.chamber.limits.inertTimeout * 10000 + 1 - c.waitElapsed)) t
            ⟨false, false, false, true, false, false⟩)
    ∧ (c.phase = .ventWait → s.mayPass (s.chamber.limits.ventTimeout * 10000 + 1 - c.waitElapsed) = true →
      ∃ t : State, exec .ventTimeoutExpiry s = .next t
        ∧ TripEntered (s.elapse (s.chamber.limits.ventTimeout * 10000 + 1 - c.waitElapsed)) t
            ⟨false, false, false, false, true, false⟩))

/-- R146, R97, R46: CLEAR_TRIP. The stations that hold TRIP lose it; every other station that is not IDLE stays as it is. Then
the arbiter makes its pass (R21), which gives the IDLE stations and the tracker. -/
def Obligations.ClearTripReturnsToRunning : Prop :=
  ∀ (tag : Byte) (s : State), s.TurnOf ⟨0x2A#8, tag, []⟩ → s.ModeHeld → s.CausesHeld →
    let refused (st : Status) : Prop :=
      exec (.clearTrip tag []) s = .next (s.takeFromQueue.sends (replyFrame 0x2A#8 tag st []))
    (s.link.mode = .offline → refused .wrongMode)
    ∧ (s.link.mode = .running → refused .ignored)
    ∧ (s.link.mode = .tripped → (∀ m, s.protection.clearHold = some m → s.now - m < s.protection.limits.clearHold * 10000) →
      refused .notClear)
    ∧ ∀ m, s.link.mode = .tripped → s.protection.clearHold = some m →
      s.protection.limits.clearHold * 10000 ≤ s.now - m →
      ∃ t : State, exec (.clearTrip tag []) s = .next (t.sends (replyFrame 0x2A#8 tag .done []))
        ∧ t.link.mode = .running ∧ t.protection = { s.protection with causes := .empty, clearHold := none }
        ∧ t.chamber = { s.chamber with standing := .stopped } ∧ t.driven.nitrogen = false
        ∧ (∀ i, (s.station i).state = .suspended → (s.station i).causes.trip = true →
          ((s.station i).causes ≠ ⟨false, false, true⟩ →
            t.station i = { s.station i with causes := { (s.station i).causes with trip := false } })
          ∧ ((s.station i).causes = ⟨false, false, true⟩ → s.receiverBlocks i = false →
            t.station i = { s.station i with state := .evacuating, causes := .empty })
          ∧ ((s.station i).causes = ⟨false, false, true⟩ → s.receiverBlocks i = true →
            t.station i = { s.station i with causes := ⟨false, true, false⟩ }))
        ∧ (∀ i, (s.station i).state ≠ .suspended ∨ (s.station i).causes.trip = false → (s.station i).state ≠ .idle →
            t.station i = s.station i)
        ∧ t.shift = s.shift
        ∧ (∃ u : State, t.tracker = u.arbiterPass.tracker ∧ t.stations = u.arbiterPass.stations
          ∧ u.link.mode = .running
          ∧ (∀ i, (s.station i).state = .idle → u.station i = s.station i)
          ∧ (∀ i, (s.station i).state ≠ .idle → u.station i = t.station i)
          ∧ u = { s with protection := t.protection, chamber := t.chamber, stations := u.stations, link := u.link })
        ∧ t = { s with
            protection := t.protection, chamber := t.chamber, stations := t.stations, tracker := t.tracker, link := t.link }

/-- R138 to R141, R145: Protection at a published scan: the conditions that hold trip a RUNNING line together; with none the
clear-hold measurement alone can change, and that only in TRIPPED. That the scan of the trip entry begins no run (DESIGN CHOICE),
and that a run begins at the moment the scan was published (DEDUCED), are the model's (notes/assumptions/12.md). -/
def Obligations.ProtectionScanFindsTheCauses : Prop :=
  ∀ (x : Scan) (s : State), scanFor .protection s.toTake = some x → s.ModeHeld →
    let conc := x.role roleChamberConc
    let oxygen := x.role roleChamberOxygen
    let usable (r : RoleReading) : Prop := r.condition = .valid ∨ r.condition = .held
    let h : Prop := s.chamber.inForce.mode = .hydrocarbon
    let lfl : Option Nat := (s.gases[s.chamber.inForce.gas]).bind (·.lfl)
    let phase : Option Phase := s.chamber.standing.phase
    let load : Prop := h ∧ phase = some .load ∧ usable conc
      ∧ ∃ l, lfl = some l ∧ l * s.protection.limits.loadTripPercent / 100 ≤ limited 60000 conc.value
    let high : Prop := h ∧ (phase = some .window ∨ phase = some .tail ∨ phase = some .ventWait) ∧ usable oxygen
      ∧ (s.protection.limits.oxygenTrip : Int) ≤ oxygen.value
    let lost : Prop := h ∧ ((∃ c, s.chamber.standing = .charging c) ∨ s.chamber.standing = .waiting)
      ∧ (¬ usable conc ∨ ¬ usable oxygen)
    let clear : Prop := conc.condition = .valid
      ∧ (h → ∀ l, lfl = some l → limited 60000 conc.value < l * s.protection.limits.clearPercent / 100)
    (s.link.mode = .running → (load ∨ high ∨ lost) →
      ∃ (t : State) (set : TripCauses), exec .protectionScan s = .next t ∧ TripEntered (s.taking .protection) t set
        ∧ (set.loadConc = true ↔ load) ∧ (set.oxygenHigh = true ↔ high) ∧ (set.signalLost = true ↔ lost)
        ∧ set.inertingFailed = false ∧ set.ventFailed = false ∧ set.requestedTrip = false)
    ∧ (s.link.mode ≠ .running ∨ ¬ (load ∨ high ∨ lost) →
      ∃ run, exec .protectionScan s
          = .next (({ s.taking .protection with protection := { s.protection with clearHold := run } } : State).settle)
        ∧ (s.link.mode ≠ .tripped → run = s.protection.clearHold)
        ∧ (s.link.mode = .tripped → ¬ clear → run = none)
        ∧ (s.link.mode = .tripped → clear → run = some (s.protection.clearHold.getD x.moment)))

/-! ## The Probe Scanner and the Sample Stream -/

/-- R150, R151, R154: a scan tick, the ticks still missing to it passing with it (notes/assumptions/2.md): when no other dated
event is due before it. With no scan in progress a scan starts: every cell not refreshed, the first slot enabled and not
FAILED read, or with none the scan published at once, no cell of it FRESH; its E is the interval since the previous start (a
free value where that does not fit the 32 bits of R151, notes/assumptions/14.md) or the divisor where it is marked so. With
one in progress the tick is skipped: that scan goes on with the read it stands at, and SCAN_OVERRUN is set. -/
def Obligations.ScanTickStartsAScan : Prop :=
  ∀ s : State, s.mayPass s.scanner.countdown = true →
    ∃ t : State, exec .scanTick s = .next t
      ∧ t.now = s.now + s.scanner.countdown ∧ t.scanner.countdown = s.scanner.divisor
      ∧ t.scanner.divisor = s.scanner.divisor ∧ t.link.mode = s.link.mode ∧ t.link.requests = s.link.requests
      ∧ t.tracker = s.tracker ∧ t.shift = s.shift ∧ t.protection = s.protection ∧ t.sample = s.sample
      ∧ (∀ p, s.scanner.inProgress = some p →
          t.toTake = s.toTake ∧ t.link.flags = { s.link.flags with scanOverrun := true }
            ∧ t.scanner = { s.scanner with
                countdown := s.scanner.divisor, sinceStart := s.scanner.sinceStart + s.scanner.countdown
                inProgress := some { p with read := { p.read with elapsed := p.read.elapsed + s.scanner.countdown } } })
      ∧ (s.scanner.inProgress = none →
          let ticks := s.scanner.sinceStart + s.scanner.countdown
          let e := if s.scanner.markedD then s.scanner.divisor
            else if ticks < 2 ^ 32 then ticks else (Config.wideElapsed ticks).toNat
          t.scanner.sinceStart = 0 ∧ t.scanner.markedD = false ∧ t.link.flags = s.link.flags
          ∧ (∀ i : CellNo, t.scanner.working[i] = ⟨s.scanner.working[i].value, false⟩)
          ∧ (∀ n : SlotNo, s.scanner.slots[n].enabled = true → s.scanner.slots[n].status ≠ .failed →
              (∀ m : SlotNo, m.val < n.val → s.scanner.slots[m].enabled = false ∨ s.scanner.slots[m].status = .failed) →
              t.scanner.inProgress = some ⟨e, n, s.scanner.slots[n].address, s.scanner.slots[n].firstValue,
                  s.scanner.slots[n].count, s.scanner.slots[n].allocation, 0⟩
                ∧ t.toTake = s.toTake
                ∧ t.scanner = { s.scanner with
                    countdown := s.scanner.divisor, markedD := false, sinceStart := 0, working := t.scanner.working
                    inProgress := t.scanner.inProgress })
          ∧ ((∀ n : SlotNo, s.scanner.slots[n].enabled = false ∨ s.scanner.slots[n].status = .failed) →
              ∃ x : Scan, t.scanner.published = some x ∧ x.elapsed = e ∧ x.sequence = s.scanner.nextSequence
                ∧ x.moment = t.now ∧ t.toTake = s.toTake ++ allConsumers.map (fun c => (c, x))
                ∧ (∀ i : CellNo, x.cells[i] = ⟨s.scanner.working[i].value,
                    if 0 < s.scanner.settlingRemaining then .unsettled else .heldFromMiss⟩)
                ∧ t.scanner = { s.scanner with
                    countdown := s.scanner.divisor, markedD := false, sinceStart := 0, working := t.scanner.working
                    inProgress := none, published := some x, nextSequence := t.scanner.nextSequence
                    settlingRemaining := s.scanner.settlingRemaining - 1, roles := t.scanner.roles }))
      ∧ t = { s.elapse s.scanner.countdown with
          scanner := t.scanner, link := t.link, pins := t.pins, toTake := t.toTake }

/-- R154 to R156, R159: a probe's reply, and the probe timeout. A good reply clears the misses of the slot and writes the values that
its allocation has room for, each cell written refreshed; any other reply, and the timeout, is a miss, which changes no cell and
makes the slot MISSING, or at the third miss FAILED with PROBE_FAILED. The scan then goes on at the next slot that is read, or is
published. A slot disabled meanwhile keeps its misses and status (the model's choice, notes/assumptions/13.md). The last tick at
which a reply is in time, and the tick of the timeout, are DEDUCED (notes/assumptions/7.md); that the ticks missing to the timeout
pass with it is the model's choice (notes/assumptions/2.md). -/
def Obligations.SlotReadsEndGoodOrMissed : Prop :=
  ∀ (p : ScanInProgress) (address : Byte) (values : List (BitVec 32)) (crc : BitVec 16) (s : State),
    s.scanner.inProgress = some p →
    let x := s.scanner.slots[p.read.slot]
    let good : Prop := p.read.elapsed ≤ 22 ∧ address.toNat = p.read.address ∧ values.length = p.read.count
      ∧ crc = crc16 (probeReplyCovered address values)
    let isRead (n : SlotNo) : Prop := s.scanner.slots[n].enabled = true ∧ s.scanner.slots[n].status ≠ .failed
    let goesOn (t : State) : Prop :=
      (∀ n : SlotNo, p.read.slot.val < n.val → isRead n → (∀ m : SlotNo, p.read.slot.val < m.val → m.val < n.val → ¬ isRead m) →
        t.scanner.inProgress = some ⟨p.elapsed, n, s.scanner.slots[n].address, s.scanner.slots[n].firstValue,
            s.scanner.slots[n].count, s.scanner.slots[n].allocation, 0⟩
          ∧ t.toTake = s.toTake ∧ t.scanner.published = s.scanner.published)
      ∧ ((∀ n : SlotNo, p.read.slot.val < n.val → ¬ isRead n) →
        ∃ y : Scan, t.scanner.published = some y ∧ y.elapsed = p.elapsed ∧ y.sequence = s.scanner.nextSequence
          ∧ y.moment = t.now ∧ t.scanner.inProgress = none ∧ t.toTake = s.toTake ++ allConsumers.map fun c => (c, y))
    let missed (t : State) (l : Link) : Prop :=
      t.scanner.slots = s.scanner.slots.set p.read.slot
          (if x.enabled then
            { x with misses := x.misses + 1, status := if x.misses < 2 then .missing else .failed } else x)
        ∧ t.scanner.working = s.scanner.working ∧ goesOn t
        ∧ t.link = (if x.enabled ∧ 2 ≤ x.misses then
            (({ s with link := l } : State).raise (.probeFailed p.read.slot x.address s.scanner.nextSequence)).link
          else l).arbitrate
    (∃ t, exec (.probeReply address values crc) s = .next t
      ∧ t.tracker = s.tracker ∧ t.stations = s.stations ∧ t.now = s.now ∧ t.link.mode = s.link.mode
      ∧ t.shift = s.shift ∧ t.protection = s.protection ∧ t.sample = s.sample ∧ t.scanner.divisor = s.scanner.divisor
      ∧ t.scanner.countdown = s.scanner.countdown ∧ t.scanner.sinceStart = s.scanner.sinceStart
      ∧ (¬ good → missed t s.link)
      ∧ (good →
        t.scanner.slots = s.scanner.slots.set p.read.slot
            (if x.enabled then { x with misses := 0, status := if x.short then .truncated else .fresh } else x)
          ∧ goesOn t ∧ t.link = s.link.arbitrate
          ∧ (∀ a, p.read.allocation = some a → ∀ i : CellNo,
              (∀ k v, values[k]? = some v → k < a.granted → i.val = a.first + k → t.scanner.working[i] = ⟨v.toInt, true⟩)
              ∧ (i.val < a.first ∨ a.first + min p.read.count a.granted ≤ i.val →
                t.scanner.working[i] = s.scanner.working[i]))
          ∧ (p.read.allocation = none → t.scanner.working = s.scanner.working)))
    ∧ (s.mayPass (23 - p.read.elapsed) = true →
      ∃ t, exec .probeTimeout s = .next t ∧ t.now = s.now + (23 - p.read.elapsed)
        ∧ missed t (s.elapse (23 - p.read.elapsed)).link
        ∧ t.tracker = s.tracker ∧ t.link.mode = s.link.mode ∧ t.shift = s.shift ∧ t.protection = s.protection
        ∧ t.sample = s.sample)

/-- R160, R161, R164: what a publication gives each cell and each role. -/
def Obligations.PublicationMarksAndJudges : Prop :=
  ∀ (elapsed : Nat) (s : State), ∃ x : Scan,
    (s.publish elapsed).scanner.published = some x ∧ x.elapsed = elapsed ∧ x.moment = s.now
    ∧ x.sequence = s.scanner.nextSequence
    ∧ (s.publish elapsed).scanner.nextSequence
        = (if s.scanner.nextSequence = 65535 then 0 else s.scanner.nextSequence + 1)
    ∧ (s.publish elapsed).scanner.settlingRemaining = s.scanner.settlingRemaining - 1
    ∧ (s.publish elapsed).toTake = s.toTake ++ allConsumers.map (fun c => (c, x))
    ∧ (∀ i : CellNo, x.cells[i] = ⟨s.scanner.working[i].value,
        if 0 < s.scanner.settlingRemaining then .unsettled
        else if s.scanner.working[i].refreshed then .fresh else .heldFromMiss⟩)
    ∧ ∀ r : RoleNo,
      let old := s.scanner.roles[r]
      let new := (s.publish elapsed).scanner.roles[r]
      (old.binding = none → x.role r = ⟨.absent, 0⟩ ∧ new = old)
      ∧ ∀ i : CellNo, old.binding = some i →
        (x.cells[i].mark = .fresh →
          x.role r = ⟨.valid, x.cells[i].value⟩
            ∧ new = { old with hasBeenValid := true, lastValid := x.cells[i].value, holdCount := 0 })
        ∧ (x.cells[i].mark ≠ .fresh → old.hasBeenValid = false → x.role r = ⟨.lost, 0⟩ ∧ new = old)
        ∧ (x.cells[i].mark ≠ .fresh → old.hasBeenValid = true →
          let count := if x.cells[i].mark = .heldFromMiss then min (old.holdCount + 1) 256 else old.holdCount
          new = { old with holdCount := count }
            ∧ x.role r = if count ≤ s.scanner.holdLimit then ⟨.held, old.lastValid⟩ else ⟨.lost, 0⟩)

/-- R152, R162: SET_SCAN_DIVISOR. R167, R163: SCANNER_RESET and BIND_SIGNAL in OFFLINE. -/
def Obligations.ScannerRequestsChangeTheScanner : Prop :=
  (∀ (tag : Byte) (n : Nat) (s : State), n < 2 ^ 32 → s.TurnOf ⟨0x30#8, tag, leBytes 4 n⟩ →
    let d := max 10 (min n 10000)
    let reply := replyFrame 0x30#8 tag (if 10 ≤ n ∧ n ≤ 10000 then .done else .clamped) (leBytes 4 d)
    (d = s.scanner.divisor → exec (.setScanDivisor tag (leBytes 4 n)) s = .next (s.takeFromQueue.sends reply))
    ∧ (d ≠ s.scanner.divisor →
      exec (.setScanDivisor tag (leBytes 4 n)) s
        = .next (({ s.takeFromQueue with
              scanner := { s.scanner with
                divisor := d, countdown := d, markedD := true, settlingRemaining := s.scanner.settlingCount } }
            : State).sends reply)))
  ∧ (∀ (tag : Byte) (s : State), s.link.mode = .offline →
    (s.TurnOf ⟨0x32#8, tag, []⟩ → ∃ slots : Vector Slot 12,
      exec (.scannerReset tag []) s
          = .next (({ s.takeFromQueue with
                scanner := { s.scanner with
                  inProgress := none, slots := slots, working := Vector.replicate 48 ⟨0, false⟩
                  settlingRemaining := s.scanner.settlingCount } } : State).sends
              (replyFrame 0x32#8 tag .done (slots.toList.flatMap fun x => allocationBytes x.allocation)))
      ∧ (∀ n : SlotNo, slots[n].enabled = s.scanner.slots[n].enabled ∧ slots[n].address = s.scanner.slots[n].address
          ∧ slots[n].firstValue = s.scanner.slots[n].firstValue ∧ slots[n].count = s.scanner.slots[n].count
          ∧ slots[n].misses = 0 ∧ (slots[n].enabled = false → slots[n].allocation = none ∧ slots[n].status = .fresh)
          ∧ (slots[n].enabled = true →
              slots[n].status = if slots[n].allocation.any (fun a => slots[n].count ≤ a.granted) then .fresh else .truncated))
      ∧ ∀ n : SlotNo, slots[n].enabled = true →
          let before := ((allSlots.filter fun m => m.val < n.val && s.scanner.slots[m].enabled).map
            fun m => s.scanner.slots[m].count).sum
          slots[n].allocation = if before < 48 then some ⟨before, min slots[n].count (48 - before)⟩ else none)
    ∧ ∀ (r : RoleNo) (cell : Option CellNo),
      s.TurnOf ⟨0x33#8, tag, leBytes 1 r.val ++ optional 1 (cell.map (·.val))⟩ →
      exec (.bindSignal tag (leBytes 1 r.val ++ optional 1 (cell.map (·.val)))) s
        = .next (({ s.takeFromQueue with
              scanner := { s.scanner with
                roles := s.scanner.roles.set r
                  (if (s.scanner.roles[r]).binding = cell then s.scanner.roles[r] else ⟨cell, false, 0, 0⟩) } }
            : State).sends (replyFrame 0x33#8 tag .done (leBytes 1 r.val ++ optional 1 (cell.map (·.val))))))

/-- R153, R157, R158, R162: SET_SCAN_SLOT. An enabled slot without an allocation is given the cells after the highest allocated
cell, as many as remain; with no slot left enabled every allocation is cleared; settling starts. -/
def Obligations.SlotWritesAllocateCells : Prop :=
  ∀ (tag : Byte) (o : SlotOperands) (s : State), s.TurnOf ⟨0x31#8, tag, o.bytes⟩ → o.slot < 256 → o.address < 256 →
    o.firstValue < 256 → o.count < 256 →
    let inRange : Prop :=
      o.slot ≤ 11 ∧ 1 ≤ o.address ∧ o.address ≤ 31 ∧ 1 ≤ o.count ∧ o.count ≤ 8 ∧ o.firstValue + o.count ≤ 256
    (¬ inRange → exec (.setScanSlot tag o.bytes) s = .next (s.takeFromQueue.sends (replyFrame 0x31#8 tag .outOfRange [])))
    ∧ ∀ n : SlotNo, o.slot = n.val → inRange → ∃ slots : Vector Slot 12,
      exec (.setScanSlot tag o.bytes) s
          = .next (({ s.takeFromQueue with
                scanner := { s.scanner with slots := slots, settlingRemaining := s.scanner.settlingCount } } : State).sends
              (replyFrame 0x31#8 tag .done (slotBytes n slots[n])))
      ∧ slots[n].enabled = o.enabled ∧ slots[n].address = o.address ∧ slots[n].firstValue = o.firstValue
      ∧ slots[n].count = o.count ∧ slots[n].misses = 0
      ∧ slots[n].status = (if o.enabled ∧ (slots[n].allocation.map (·.granted)).getD 0 < o.count then .truncated else .fresh)
      ∧ ((o.enabled = true ∨ ∃ m : SlotNo, m ≠ n ∧ s.scanner.slots[m].enabled = true) →
          (∀ m : SlotNo, m ≠ n → slots[m] = s.scanner.slots[m])
          ∧ (o.enabled = false ∨ s.scanner.slots[n].allocation ≠ none →
            slots[n].allocation = s.scanner.slots[n].allocation)
          ∧ (o.enabled = true → s.scanner.slots[n].allocation = none →
            ∃ first : Nat,
              (∀ (m : SlotNo) (a : Allocation), s.scanner.slots[m].allocation = some a → a.first + a.granted ≤ first)
              ∧ (first = 0 ∨ ∃ (m : SlotNo) (a : Allocation),
                  s.scanner.slots[m].allocation = some a ∧ a.first + a.granted = first)
              ∧ slots[n].allocation
                  = if first < 48 then some ⟨first, min o.count (48 - first)⟩ else none))
      ∧ (o.enabled = false → (∀ m : SlotNo, m ≠ n → s.scanner.slots[m].enabled = false) →
          ∀ m : SlotNo, slots[m].allocation = none
            ∧ (m ≠ n → slots[m] = { s.scanner.slots[m] with allocation := none }))

/-- R175, R176: a published scan at the Sample Stream: all of its entries appended, in ascending cell order, or none, and the
threshold test. -/
def Obligations.SampleScanIsWrittenWhole : Prop :=
  ∀ (x : Scan) (s : State), scanFor .sampleStream s.toTake = some x →
    ∃ entries : List SampleEntry,
      (∀ e, e ∈ entries ↔ s.sample.set.getLsbD e.cell.val = true
        ∧ e = ⟨x.sequence, e.cell, x.cells[e.cell].mark, x.cells[e.cell].value⟩)
      ∧ entries.Pairwise (fun a b => a.cell.val < b.cell.val)
      ∧ (s.sample.enable = false ∨ entries = [] →
        exec .sampleScanWrite s = .next (s.taking .sampleStream).settle)
      ∧ (s.sample.enable = true → 4096 < s.sample.fifo.length + entries.length → entries ≠ [] →
        ∃ t, exec .sampleScanWrite s = .next t ∧ t.sample = s.sample ∧ t.link.flags.sampleOverflow = true
          ∧ t.link.notices = (s.taking .sampleStream).settle.link.notices
          ∧ t = { s with toTake := t.toTake, link := t.link, pins := t.pins })
      ∧ (s.sample.enable = true → entries ≠ [] → s.sample.fifo.length + entries.length ≤ 4096 →
        let held := s.sample.fifo.length + entries.length
        let passes := decide (s.sample.armed = true ∧ s.sample.threshold < held)
        let kept : State := { s.taking .sampleStream with
          sample := { s.sample with fifo := s.sample.fifo ++ entries, armed := s.sample.armed && !passes } }
        exec .sampleScanWrite s
          = .next (if passes then kept.raise (.sampleThreshold x.sequence held s.sample.threshold) else kept).settle)

/-- R173, R177: STREAM_CONTROL and DRAIN_SAMPLES. -/
def Obligations.StreamIsControlledAndDrained : Prop :=
  (∀ (tag : Byte) (o : StreamOperands) (s : State), s.TurnOf ⟨0x38#8, tag, o.bytes⟩ → o.threshold < 65536 →
    (o.threshold < 1 ∨ 4095 < o.threshold →
      exec (.streamControl tag o.bytes) s = .next (s.takeFromQueue.sends (replyFrame 0x38#8 tag .outOfRange [])))
    ∧ (1 ≤ o.threshold → o.threshold ≤ 4095 →
      let left := if o.flush then [] else s.sample.fifo
      exec (.streamControl tag o.bytes) s
        = .next (({ s.takeFromQueue with
              sample :=
                { fifo := left, set := o.set, enable := o.enable, threshold := o.threshold
                  armed := decide (left.length ≤ o.threshold) } } : State).sends
            (replyFrame 0x38#8 tag .done
              (leBytes 6 o.set.toNat ++ indicator o.enable ++ leBytes 2 o.threshold ++ leBytes 2 left.length)))))
  ∧ (∀ (tag b : Byte) (s : State), s.TurnOf ⟨0x39#8, tag, [b]⟩ →
    let taken := s.sample.fifo.take b.toNat
    let left := s.sample.fifo.drop b.toNat
    (b.toNat = 0 ∨ 64 < b.toNat →
      exec (.drainSamples tag [b]) s = .next (s.takeFromQueue.sends (replyFrame 0x39#8 tag .outOfRange [])))
    ∧ (1 ≤ b.toNat → b.toNat ≤ 64 → s.sample.fifo = [] →
      exec (.drainSamples tag [b]) s
        = .next (({ s.takeFromQueue with
              link := { s.takeFromQueue.link with flags := { s.link.flags with sampleUnderflow := true } } } : State).sends
            (replyFrame 0x39#8 tag .done [0x00#8, 0x00#8, 0x00#8])))
    ∧ (1 ≤ b.toNat → b.toNat ≤ 64 → s.sample.fifo ≠ [] →
      exec (.drainSamples tag [b]) s
        = .next (({ s.takeFromQueue with
              sample := { s.sample with
                fifo := left, armed := s.sample.armed || decide (left.length ≤ s.sample.threshold) } } : State).sends
            (replyFrame 0x39#8 tag .done
              (leBytes 1 taken.length ++ leBytes 2 left.length ++ taken.flatMap SampleEntry.bytes)))))

end
end

