-- ==== Sys2Proof/Laws/Bytes.lean ====
section
/-! SUPPORT. Laws/Bytes.lean: little-endian fields written and read back (11.2, R195), and each request's payload read back from
the bytes its fields are sent as (11.10). -/

namespace Sys2Proof.Machine

@[simp] theorem leBytes_length (w n : Nat) : (leBytes w n).length = w := by
  induction w generalizing n with
  | zero => rfl
  | succ w ih => simp [leBytes, ih]

theorem leValue_leBytes (w n : Nat) : leValue (leBytes w n) = n % 256 ^ w := by
  induction w generalizing n with
  | zero => simp [leBytes, leValue, Nat.mod_one]
  | succ w ih =>
    simp only [leBytes, leValue, ih, BitVec.toNat_ofNat]
    have e : (256 : Nat) ^ (w + 1) = 256 * 256 ^ w := by rw [Nat.pow_succ, Nat.mul_comm]
    rw [e, Nat.mod_mul]

/-- A field at the start of what follows reads as the number written there. -/
theorem field_here (w n : Nat) (rest : List Byte) : field (leBytes w n ++ rest) 0 w = n % 256 ^ w := by
  unfold field
  rw [List.drop_zero, List.take_append_of_le_length (by simp), List.take_of_length_le (by simp), leValue_leBytes]

/-- A field that lies beyond the first bytes is a field of what follows them. -/
theorem field_skip (a b : List Byte) (o w : Nat) (h : a.length ≤ o) : field (a ++ b) o w = field b (o - a.length) w := by
  unfold field
  rw [List.drop_append, List.drop_of_length_le h, List.nil_append]

@[simp] theorem indicator_length (b : Bool) : (indicator b).length = 1 := rfl
@[simp] theorem optional_length (w : Nat) (o : Option Nat) : (optional w o).length = w + 1 := by
  cases o <;> simp [optional]
@[simp] theorem signedBytes_length (w : Nat) (i : Int) : (signedBytes w i).length = w := by simp [signedBytes]
@[simp] theorem optionalSigned_length (w : Nat) (o : Option Int) : (optionalSigned w o).length = w + 1 := by
  cases o <;> simp [optionalSigned]

end Sys2Proof.Machine
end

