-- ==== Sys2Proof/Laws/State.lean ====
section
/-! SUPPORT. Laws/State.lean: what each replacement of one part of the state leaves, field by field, so that no later proof
unfolds a record update. -/

namespace Sys2Proof.Machine

variable (s : State)

/-! ### State.setLink -/

@[simp] theorem State.setLink_pending (x : Link) : (s.setLink x).pending = s.pending := rfl
@[simp] theorem State.setLink_now (x : Link) : (s.setLink x).now = s.now := rfl
@[simp] theorem State.setLink_choices (x : Link) : (s.setLink x).choices = s.choices := rfl
@[simp] theorem State.setLink_link (x : Link) : (s.setLink x).link = x := rfl
@[simp] theorem State.setLink_tracker (x : Link) : (s.setLink x).tracker = s.tracker := rfl
@[simp] theorem State.setLink_stations (x : Link) : (s.setLink x).stations = s.stations := rfl
@[simp] theorem State.setLink_timing (x : Link) : (s.setLink x).timing = s.timing := rfl
@[simp] theorem State.setLink_receiverF (x : Link) : (s.setLink x).receiverF = s.receiverF := rfl
@[simp] theorem State.setLink_receiverH (x : Link) : (s.setLink x).receiverH = s.receiverH := rfl
@[simp] theorem State.setLink_chamber (x : Link) : (s.setLink x).chamber = s.chamber := rfl
@[simp] theorem State.setLink_gases (x : Link) : (s.setLink x).gases = s.gases := rfl
@[simp] theorem State.setLink_deadBand (x : Link) : (s.setLink x).deadBand = s.deadBand := rfl
@[simp] theorem State.setLink_maximumBaseline (x : Link) : (s.setLink x).maximumBaseline = s.maximumBaseline := rfl
@[simp] theorem State.setLink_shift (x : Link) : (s.setLink x).shift = s.shift := rfl
@[simp] theorem State.setLink_protection (x : Link) : (s.setLink x).protection = s.protection := rfl
@[simp] theorem State.setLink_scanner (x : Link) : (s.setLink x).scanner = s.scanner := rfl
@[simp] theorem State.setLink_toTake (x : Link) : (s.setLink x).toTake = s.toTake := rfl
@[simp] theorem State.setLink_sample (x : Link) : (s.setLink x).sample = s.sample := rfl
@[simp] theorem State.setLink_pins (x : Link) : (s.setLink x).pins = s.pins := rfl

/-! ### State.setTracker -/

@[simp] theorem State.setTracker_pending (x : Tracker) : (s.setTracker x).pending = s.pending := rfl
@[simp] theorem State.setTracker_now (x : Tracker) : (s.setTracker x).now = s.now := rfl
@[simp] theorem State.setTracker_choices (x : Tracker) : (s.setTracker x).choices = s.choices := rfl
@[simp] theorem State.setTracker_link (x : Tracker) : (s.setTracker x).link = s.link := rfl
@[simp] theorem State.setTracker_tracker (x : Tracker) : (s.setTracker x).tracker = x := rfl
@[simp] theorem State.setTracker_stations (x : Tracker) : (s.setTracker x).stations = s.stations := rfl
@[simp] theorem State.setTracker_timing (x : Tracker) : (s.setTracker x).timing = s.timing := rfl
@[simp] theorem State.setTracker_receiverF (x : Tracker) : (s.setTracker x).receiverF = s.receiverF := rfl
@[simp] theorem State.setTracker_receiverH (x : Tracker) : (s.setTracker x).receiverH = s.receiverH := rfl
@[simp] theorem State.setTracker_chamber (x : Tracker) : (s.setTracker x).chamber = s.chamber := rfl
@[simp] theorem State.setTracker_gases (x : Tracker) : (s.setTracker x).gases = s.gases := rfl
@[simp] theorem State.setTracker_deadBand (x : Tracker) : (s.setTracker x).deadBand = s.deadBand := rfl
@[simp] theorem State.setTracker_maximumBaseline (x : Tracker) : (s.setTracker x).maximumBaseline = s.maximumBaseline := rfl
@[simp] theorem State.setTracker_shift (x : Tracker) : (s.setTracker x).shift = s.shift := rfl
@[simp] theorem State.setTracker_protection (x : Tracker) : (s.setTracker x).protection = s.protection := rfl
@[simp] theorem State.setTracker_scanner (x : Tracker) : (s.setTracker x).scanner = s.scanner := rfl
@[simp] theorem State.setTracker_toTake (x : Tracker) : (s.setTracker x).toTake = s.toTake := rfl
@[simp] theorem State.setTracker_sample (x : Tracker) : (s.setTracker x).sample = s.sample := rfl
@[simp] theorem State.setTracker_pins (x : Tracker) : (s.setTracker x).pins = s.pins := rfl

/-! ### State.setChamber -/

@[simp] theorem State.setChamber_pending (x : Chamber) : (s.setChamber x).pending = s.pending := rfl
@[simp] theorem State.setChamber_now (x : Chamber) : (s.setChamber x).now = s.now := rfl
@[simp] theorem State.setChamber_choices (x : Chamber) : (s.setChamber x).choices = s.choices := rfl
@[simp] theorem State.setChamber_link (x : Chamber) : (s.setChamber x).link = s.link := rfl
@[simp] theorem State.setChamber_tracker (x : Chamber) : (s.setChamber x).tracker = s.tracker := rfl
@[simp] theorem State.setChamber_stations (x : Chamber) : (s.setChamber x).stations = s.stations := rfl
@[simp] theorem State.setChamber_timing (x : Chamber) : (s.setChamber x).timing = s.timing := rfl
@[simp] theorem State.setChamber_receiverF (x : Chamber) : (s.setChamber x).receiverF = s.receiverF := rfl
@[simp] theorem State.setChamber_receiverH (x : Chamber) : (s.setChamber x).receiverH = s.receiverH := rfl
@[simp] theorem State.setChamber_chamber (x : Chamber) : (s.setChamber x).chamber = x := rfl
@[simp] theorem State.setChamber_gases (x : Chamber) : (s.setChamber x).gases = s.gases := rfl
@[simp] theorem State.setChamber_deadBand (x : Chamber) : (s.setChamber x).deadBand = s.deadBand := rfl
@[simp] theorem State.setChamber_maximumBaseline (x : Chamber) : (s.setChamber x).maximumBaseline = s.maximumBaseline := rfl
@[simp] theorem State.setChamber_shift (x : Chamber) : (s.setChamber x).shift = s.shift := rfl
@[simp] theorem State.setChamber_protection (x : Chamber) : (s.setChamber x).protection = s.protection := rfl
@[simp] theorem State.setChamber_scanner (x : Chamber) : (s.setChamber x).scanner = s.scanner := rfl
@[simp] theorem State.setChamber_toTake (x : Chamber) : (s.setChamber x).toTake = s.toTake := rfl
@[simp] theorem State.setChamber_sample (x : Chamber) : (s.setChamber x).sample = s.sample := rfl
@[simp] theorem State.setChamber_pins (x : Chamber) : (s.setChamber x).pins = s.pins := rfl

/-! ### State.setShift -/

@[simp] theorem State.setShift_pending (x : Shift) : (s.setShift x).pending = s.pending := rfl
@[simp] theorem State.setShift_now (x : Shift) : (s.setShift x).now = s.now := rfl
@[simp] theorem State.setShift_choices (x : Shift) : (s.setShift x).choices = s.choices := rfl
@[simp] theorem State.setShift_link (x : Shift) : (s.setShift x).link = s.link := rfl
@[simp] theorem State.setShift_tracker (x : Shift) : (s.setShift x).tracker = s.tracker := rfl
@[simp] theorem State.setShift_stations (x : Shift) : (s.setShift x).stations = s.stations := rfl
@[simp] theorem State.setShift_timing (x : Shift) : (s.setShift x).timing = s.timing := rfl
@[simp] theorem State.setShift_receiverF (x : Shift) : (s.setShift x).receiverF = s.receiverF := rfl
@[simp] theorem State.setShift_receiverH (x : Shift) : (s.setShift x).receiverH = s.receiverH := rfl
@[simp] theorem State.setShift_chamber (x : Shift) : (s.setShift x).chamber = s.chamber := rfl
@[simp] theorem State.setShift_gases (x : Shift) : (s.setShift x).gases = s.gases := rfl
@[simp] theorem State.setShift_deadBand (x : Shift) : (s.setShift x).deadBand = s.deadBand := rfl
@[simp] theorem State.setShift_maximumBaseline (x : Shift) : (s.setShift x).maximumBaseline = s.maximumBaseline := rfl
@[simp] theorem State.setShift_shift (x : Shift) : (s.setShift x).shift = x := rfl
@[simp] theorem State.setShift_protection (x : Shift) : (s.setShift x).protection = s.protection := rfl
@[simp] theorem State.setShift_scanner (x : Shift) : (s.setShift x).scanner = s.scanner := rfl
@[simp] theorem State.setShift_toTake (x : Shift) : (s.setShift x).toTake = s.toTake := rfl
@[simp] theorem State.setShift_sample (x : Shift) : (s.setShift x).sample = s.sample := rfl
@[simp] theorem State.setShift_pins (x : Shift) : (s.setShift x).pins = s.pins := rfl

/-! ### State.setProtection -/

@[simp] theorem State.setProtection_pending (x : Protection) : (s.setProtection x).pending = s.pending := rfl
@[simp] theorem State.setProtection_now (x : Protection) : (s.setProtection x).now = s.now := rfl
@[simp] theorem State.setProtection_choices (x : Protection) : (s.setProtection x).choices = s.choices := rfl
@[simp] theorem State.setProtection_link (x : Protection) : (s.setProtection x).link = s.link := rfl
@[simp] theorem State.setProtection_tracker (x : Protection) : (s.setProtection x).tracker = s.tracker := rfl
@[simp] theorem State.setProtection_stations (x : Protection) : (s.setProtection x).stations = s.stations := rfl
@[simp] theorem State.setProtection_timing (x : Protection) : (s.setProtection x).timing = s.timing := rfl
@[simp] theorem State.setProtection_receiverF (x : Protection) : (s.setProtection x).receiverF = s.receiverF := rfl
@[simp] theorem State.setProtection_receiverH (x : Protection) : (s.setProtection x).receiverH = s.receiverH := rfl
@[simp] theorem State.setProtection_chamber (x : Protection) : (s.setProtection x).chamber = s.chamber := rfl
@[simp] theorem State.setProtection_gases (x : Protection) : (s.setProtection x).gases = s.gases := rfl
@[simp] theorem State.setProtection_deadBand (x : Protection) : (s.setProtection x).deadBand = s.deadBand := rfl
@[simp] theorem State.setProtection_maximumBaseline (x : Protection) : (s.setProtection x).maximumBaseline = s.maximumBaseline := rfl
@[simp] theorem State.setProtection_shift (x : Protection) : (s.setProtection x).shift = s.shift := rfl
@[simp] theorem State.setProtection_protection (x : Protection) : (s.setProtection x).protection = x := rfl
@[simp] theorem State.setProtection_scanner (x : Protection) : (s.setProtection x).scanner = s.scanner := rfl
@[simp] theorem State.setProtection_toTake (x : Protection) : (s.setProtection x).toTake = s.toTake := rfl
@[simp] theorem State.setProtection_sample (x : Protection) : (s.setProtection x).sample = s.sample := rfl
@[simp] theorem State.setProtection_pins (x : Protection) : (s.setProtection x).pins = s.pins := rfl

/-! ### State.setScanner -/

@[simp] theorem State.setScanner_pending (x : Scanner) : (s.setScanner x).pending = s.pending := rfl
@[simp] theorem State.setScanner_now (x : Scanner) : (s.setScanner x).now = s.now := rfl
@[simp] theorem State.setScanner_choices (x : Scanner) : (s.setScanner x).choices = s.choices := rfl
@[simp] theorem State.setScanner_link (x : Scanner) : (s.setScanner x).link = s.link := rfl
@[simp] theorem State.setScanner_tracker (x : Scanner) : (s.setScanner x).tracker = s.tracker := rfl
@[simp] theorem State.setScanner_stations (x : Scanner) : (s.setScanner x).stations = s.stations := rfl
@[simp] theorem State.setScanner_timing (x : Scanner) : (s.setScanner x).timing = s.timing := rfl
@[simp] theorem State.setScanner_receiverF (x : Scanner) : (s.setScanner x).receiverF = s.receiverF := rfl
@[simp] theorem State.setScanner_receiverH (x : Scanner) : (s.setScanner x).receiverH = s.receiverH := rfl
@[simp] theorem State.setScanner_chamber (x : Scanner) : (s.setScanner x).chamber = s.chamber := rfl
@[simp] theorem State.setScanner_gases (x : Scanner) : (s.setScanner x).gases = s.gases := rfl
@[simp] theorem State.setScanner_deadBand (x : Scanner) : (s.setScanner x).deadBand = s.deadBand := rfl
@[simp] theorem State.setScanner_maximumBaseline (x : Scanner) : (s.setScanner x).maximumBaseline = s.maximumBaseline := rfl
@[simp] theorem State.setScanner_shift (x : Scanner) : (s.setScanner x).shift = s.shift := rfl
@[simp] theorem State.setScanner_protection (x : Scanner) : (s.setScanner x).protection = s.protection := rfl
@[simp] theorem State.setScanner_scanner (x : Scanner) : (s.setScanner x).scanner = x := rfl
@[simp] theorem State.setScanner_toTake (x : Scanner) : (s.setScanner x).toTake = s.toTake := rfl
@[simp] theorem State.setScanner_sample (x : Scanner) : (s.setScanner x).sample = s.sample := rfl
@[simp] theorem State.setScanner_pins (x : Scanner) : (s.setScanner x).pins = s.pins := rfl

/-! ### State.setSample -/

@[simp] theorem State.setSample_pending (x : SampleStream) : (s.setSample x).pending = s.pending := rfl
@[simp] theorem State.setSample_now (x : SampleStream) : (s.setSample x).now = s.now := rfl
@[simp] theorem State.setSample_choices (x : SampleStream) : (s.setSample x).choices = s.choices := rfl
@[simp] theorem State.setSample_link (x : SampleStream) : (s.setSample x).link = s.link := rfl
@[simp] theorem State.setSample_tracker (x : SampleStream) : (s.setSample x).tracker = s.tracker := rfl
@[simp] theorem State.setSample_stations (x : SampleStream) : (s.setSample x).stations = s.stations := rfl
@[simp] theorem State.setSample_timing (x : SampleStream) : (s.setSample x).timing = s.timing := rfl
@[simp] theorem State.setSample_receiverF (x : SampleStream) : (s.setSample x).receiverF = s.receiverF := rfl
@[simp] theorem State.setSample_receiverH (x : SampleStream) : (s.setSample x).receiverH = s.receiverH := rfl
@[simp] theorem State.setSample_chamber (x : SampleStream) : (s.setSample x).chamber = s.chamber := rfl
@[simp] theorem State.setSample_gases (x : SampleStream) : (s.setSample x).gases = s.gases := rfl
@[simp] theorem State.setSample_deadBand (x : SampleStream) : (s.setSample x).deadBand = s.deadBand := rfl
@[simp] theorem State.setSample_maximumBaseline (x : SampleStream) : (s.setSample x).maximumBaseline = s.maximumBaseline := rfl
@[simp] theorem State.setSample_shift (x : SampleStream) : (s.setSample x).shift = s.shift := rfl
@[simp] theorem State.setSample_protection (x : SampleStream) : (s.setSample x).protection = s.protection := rfl
@[simp] theorem State.setSample_scanner (x : SampleStream) : (s.setSample x).scanner = s.scanner := rfl
@[simp] theorem State.setSample_toTake (x : SampleStream) : (s.setSample x).toTake = s.toTake := rfl
@[simp] theorem State.setSample_sample (x : SampleStream) : (s.setSample x).sample = x := rfl
@[simp] theorem State.setSample_pins (x : SampleStream) : (s.setSample x).pins = s.pins := rfl

/-! ### State.setStation -/

@[simp] theorem State.setStation_pending (i : StationNo) (x : Station) : (s.setStation i x).pending = s.pending := rfl
@[simp] theorem State.setStation_now (i : StationNo) (x : Station) : (s.setStation i x).now = s.now := rfl
@[simp] theorem State.setStation_choices (i : StationNo) (x : Station) : (s.setStation i x).choices = s.choices := rfl
@[simp] theorem State.setStation_link (i : StationNo) (x : Station) : (s.setStation i x).link = s.link := rfl
@[simp] theorem State.setStation_tracker (i : StationNo) (x : Station) : (s.setStation i x).tracker = s.tracker := rfl
@[simp] theorem State.setStation_stations (i : StationNo) (x : Station) : (s.setStation i x).stations = s.stations.set i x := rfl
@[simp] theorem State.setStation_timing (i : StationNo) (x : Station) : (s.setStation i x).timing = s.timing := rfl
@[simp] theorem State.setStation_receiverF (i : StationNo) (x : Station) : (s.setStation i x).receiverF = s.receiverF := rfl
@[simp] theorem State.setStation_receiverH (i : StationNo) (x : Station) : (s.setStation i x).receiverH = s.receiverH := rfl
@[simp] theorem State.setStation_chamber (i : StationNo) (x : Station) : (s.setStation i x).chamber = s.chamber := rfl
@[simp] theorem State.setStation_gases (i : StationNo) (x : Station) : (s.setStation i x).gases = s.gases := rfl
@[simp] theorem State.setStation_deadBand (i : StationNo) (x : Station) : (s.setStation i x).deadBand = s.deadBand := rfl
@[simp] theorem State.setStation_maximumBaseline (i : StationNo) (x : Station) : (s.setStation i x).maximumBaseline = s.maximumBaseline := rfl
@[simp] theorem State.setStation_shift (i : StationNo) (x : Station) : (s.setStation i x).shift = s.shift := rfl
@[simp] theorem State.setStation_protection (i : StationNo) (x : Station) : (s.setStation i x).protection = s.protection := rfl
@[simp] theorem State.setStation_scanner (i : StationNo) (x : Station) : (s.setStation i x).scanner = s.scanner := rfl
@[simp] theorem State.setStation_toTake (i : StationNo) (x : Station) : (s.setStation i x).toTake = s.toTake := rfl
@[simp] theorem State.setStation_sample (i : StationNo) (x : Station) : (s.setStation i x).sample = s.sample := rfl
@[simp] theorem State.setStation_pins (i : StationNo) (x : Station) : (s.setStation i x).pins = s.pins := rfl
@[simp] theorem State.setStation_station_self (i : StationNo) (x : Station) : (s.setStation i x).station i = x := by
  simp [State.station]
theorem State.setStation_station (i j : StationNo) (x : Station) :
    (s.setStation i x).station j = if i = j then x else s.station j := by
  by_cases h : i = j
  · subst h; simp
  · have : (i : Nat) ≠ j := fun e => h (Fin.ext e)
    simp [State.station, h, this]
theorem State.setStation_station_ne (i j : StationNo) (x : Station) (h : i ≠ j) :
    (s.setStation i x).station j = s.station j := by simp [State.setStation_station, h]

/-! ### State.setReceiver -/

@[simp] theorem State.setReceiver_pending (f : Family) (x : Receiver) : (s.setReceiver f x).pending = s.pending := by
  cases f <;> rfl
@[simp] theorem State.setReceiver_now (f : Family) (x : Receiver) : (s.setReceiver f x).now = s.now := by
  cases f <;> rfl
@[simp] theorem State.setReceiver_choices (f : Family) (x : Receiver) : (s.setReceiver f x).choices = s.choices := by
  cases f <;> rfl
@[simp] theorem State.setReceiver_link (f : Family) (x : Receiver) : (s.setReceiver f x).link = s.link := by
  cases f <;> rfl
@[simp] theorem State.setReceiver_tracker (f : Family) (x : Receiver) : (s.setReceiver f x).tracker = s.tracker := by
  cases f <;> rfl
@[simp] theorem State.setReceiver_stations (f : Family) (x : Receiver) : (s.setReceiver f x).stations = s.stations := by
  cases f <;> rfl
@[simp] theorem State.setReceiver_timing (f : Family) (x : Receiver) : (s.setReceiver f x).timing = s.timing := by
  cases f <;> rfl
@[simp] theorem State.setReceiver_chamber (f : Family) (x : Receiver) : (s.setReceiver f x).chamber = s.chamber := by
  cases f <;> rfl
@[simp] theorem State.setReceiver_gases (f : Family) (x : Receiver) : (s.setReceiver f x).gases = s.gases := by
  cases f <;> rfl
@[simp] theorem State.setReceiver_deadBand (f : Family) (x : Receiver) : (s.setReceiver f x).deadBand = s.deadBand := by
  cases f <;> rfl
@[simp] theorem State.setReceiver_maximumBaseline (f : Family) (x : Receiver) : (s.setReceiver f x).maximumBaseline = s.maximumBaseline := by
  cases f <;> rfl
@[simp] theorem State.setReceiver_shift (f : Family) (x : Receiver) : (s.setReceiver f x).shift = s.shift := by
  cases f <;> rfl
@[simp] theorem State.setReceiver_protection (f : Family) (x : Receiver) : (s.setReceiver f x).protection = s.protection := by
  cases f <;> rfl
@[simp] theorem State.setReceiver_scanner (f : Family) (x : Receiver) : (s.setReceiver f x).scanner = s.scanner := by
  cases f <;> rfl
@[simp] theorem State.setReceiver_toTake (f : Family) (x : Receiver) : (s.setReceiver f x).toTake = s.toTake := by
  cases f <;> rfl
@[simp] theorem State.setReceiver_sample (f : Family) (x : Receiver) : (s.setReceiver f x).sample = s.sample := by
  cases f <;> rfl
@[simp] theorem State.setReceiver_pins (f : Family) (x : Receiver) : (s.setReceiver f x).pins = s.pins := by
  cases f <;> rfl
@[simp] theorem State.setReceiver_receiver_self (f : Family) (x : Receiver) : (s.setReceiver f x).receiver f = x := by
  cases f <;> rfl
theorem State.setReceiver_receiver (f g : Family) (x : Receiver) :
    (s.setReceiver f x).receiver g = if f = g then x else s.receiver g := by
  cases f <;> cases g <;> rfl
@[simp] theorem State.setReceiver_station (f : Family) (x : Receiver) (i : StationNo) :
    (s.setReceiver f x).station i = s.station i := by cases f <;> rfl
@[simp] theorem State.setLink_station (x : Link) (i : StationNo) : (s.setLink x).station i = s.station i := rfl
@[simp] theorem State.setLink_receiver (x : Link) (f : Family) : (s.setLink x).receiver f = s.receiver f := by cases f <;> rfl
@[simp] theorem State.setTracker_station (x : Tracker) (i : StationNo) : (s.setTracker x).station i = s.station i := rfl
@[simp] theorem State.setTracker_receiver (x : Tracker) (f : Family) : (s.setTracker x).receiver f = s.receiver f := by cases f <;> rfl
@[simp] theorem State.setChamber_station (x : Chamber) (i : StationNo) : (s.setChamber x).station i = s.station i := rfl
@[simp] theorem State.setChamber_receiver (x : Chamber) (f : Family) : (s.setChamber x).receiver f = s.receiver f := by cases f <;> rfl
@[simp] theorem State.setShift_station (x : Shift) (i : StationNo) : (s.setShift x).station i = s.station i := rfl
@[simp] theorem State.setShift_receiver (x : Shift) (f : Family) : (s.setShift x).receiver f = s.receiver f := by cases f <;> rfl
@[simp] theorem State.setProtection_station (x : Protection) (i : StationNo) : (s.setProtection x).station i = s.station i := rfl
@[simp] theorem State.setProtection_receiver (x : Protection) (f : Family) : (s.setProtection x).receiver f = s.receiver f := by cases f <;> rfl
@[simp] theorem State.setScanner_station (x : Scanner) (i : StationNo) : (s.setScanner x).station i = s.station i := rfl
@[simp] theorem State.setScanner_receiver (x : Scanner) (f : Family) : (s.setScanner x).receiver f = s.receiver f := by cases f <;> rfl
@[simp] theorem State.setSample_station (x : SampleStream) (i : StationNo) : (s.setSample x).station i = s.station i := rfl
@[simp] theorem State.setSample_receiver (x : SampleStream) (f : Family) : (s.setSample x).receiver f = s.receiver f := by cases f <;> rfl
@[simp] theorem State.setStation_receiver (i : StationNo) (x : Station) (f : Family) :
    (s.setStation i x).receiver f = s.receiver f := by cases f <;> rfl

end Sys2Proof.Machine
end

