-- ==== Sys2Proof/Laws/Line.lean ====
section
/-! SUPPORT. Laws/Line.lean: what no block's rule touches: the model's queue and counts, the published scans not yet taken,
the frame receiver, the request queue, the reply that is ready and the frame being sent. One lemma per shared operation and
per handled request. -/

namespace Sys2Proof.Machine

/-- The part of the state that only the Link block's own receiving, queueing and sending, and the taking of scans, change. -/
structure Line where
  pending : List Instr
  now : Nat
  choices : Nat
  toTake : List (Consumer × Scan)
  rx : FrameReceiver
  requests : List Request
  reply : Option TxFrame
  sending : Option Sending

/-- A state's line. -/
def State.line (s : State) : Line :=
  ⟨s.pending, s.now, s.choices, s.toTake, s.link.rx, s.link.requests, s.link.reply, s.link.sending⟩

/-- Equal lines are equal field by field. -/
theorem State.line_fields {s t : State} (h : t.line = s.line) :
    t.pending = s.pending ∧ t.now = s.now ∧ t.choices = s.choices ∧ t.toTake = s.toTake ∧ t.link.rx = s.link.rx
      ∧ t.link.requests = s.link.requests ∧ t.link.reply = s.link.reply ∧ t.link.sending = s.link.sending := by
  simpa [State.line] using h

section replacements
variable (s : State)

@[simp] theorem State.setTracker_line (x : Tracker) : (s.setTracker x).line = s.line := rfl
@[simp] theorem State.setChamber_line (x : Chamber) : (s.setChamber x).line = s.line := rfl
@[simp] theorem State.setShift_line (x : Shift) : (s.setShift x).line = s.line := rfl
@[simp] theorem State.setProtection_line (x : Protection) : (s.setProtection x).line = s.line := rfl
@[simp] theorem State.setScanner_line (x : Scanner) : (s.setScanner x).line = s.line := rfl
@[simp] theorem State.setSample_line (x : SampleStream) : (s.setSample x).line = s.line := rfl
@[simp] theorem State.setStation_line (i : StationNo) (x : Station) : (s.setStation i x).line = s.line := rfl
@[simp] theorem State.setReceiver_line (f : Family) (x : Receiver) : (s.setReceiver f x).line = s.line := by cases f <;> rfl
@[simp] theorem State.setMode_line (m : LineMode) : (s.setLink { s.link with mode := m }).line = s.line := rfl
@[simp] theorem State.setEnables_line (e : BitVec 13) : (s.setLink { s.link with enables := e }).line = s.line := rfl
@[simp] theorem State.setFlags_line (e : ReadFlags) : (s.setLink { s.link with flags := e }).line = s.line := rfl
@[simp] theorem State.setFlag_line (x : ReadFlag) : (s.setFlag x).line = s.line := rfl
@[simp] theorem State.setGas_line (g : GasIndex) (e : Option GasEntry) : (s.setGas g e).line = s.line := rfl
@[simp] theorem State.setClass_line (n : Fin 32) (e : Option ClassEntry) : (s.setClass n e).line = s.line := rfl
@[simp] theorem State.modifyUnit_line (tag : Nat) (f : UnitRecord → UnitRecord) : (s.modifyUnit tag f).line = s.line := rfl
@[simp] theorem State.freeUnit_line (tag : Nat) : (s.freeUnit tag).line = s.line := rfl
@[simp] theorem State.setSlot_line (n : SlotNo) (x : Slot) : (s.setSlot n x).line = s.line := rfl
@[simp] theorem State.setCharge_line (c : Charge) : (s.setCharge c).line = s.line := rfl

@[simp] theorem State.raise_line (n : Notice) : (s.raise n).line = s.line := by
  unfold State.raise; split
  · split <;> rfl
  · rfl

end replacements

/-! ### Units and stations -/

@[simp] theorem State.reportAnomaly_line (s : State) (tag : Nat) (a : Anomaly) : (s.reportAnomaly tag a).line = s.line := rfl
@[simp] theorem State.reportFrom_line (s : State) (u : Option Nat) (a : Anomaly) : (s.reportFrom u a).line = s.line := by
  cases u <;> rfl
@[simp] theorem State.reportCycleStart_line (s : State) (tag : Nat) : (s.reportCycleStart tag).line = s.line := rfl
@[simp] theorem State.handResult_line (s : State) (tag : Nat) (d : DegasResult) : (s.handResult tag d).line = s.line := rfl

@[simp] theorem State.noteStation_line (s : State) (before : Vector Station 4) (i : StationNo) :
    (s.noteStation before i).line = s.line := by
  unfold State.noteStation; dsimp only; split <;> simp

/-- A fold of operations that keep the line keeps it. -/
theorem State.foldl_line {α : Type} (f : State → α → State) (h : ∀ t a, (f t a).line = t.line) (xs : List α) (s : State) :
    (xs.foldl f s).line = s.line := by
  induction xs generalizing s with
  | nil => rfl
  | cons x xs ih => rw [List.foldl_cons, ih, h]

@[simp] theorem State.noteStations_line (s : State) (before : Vector Station 4) : (s.noteStations before).line = s.line :=
  State.foldl_line _ (fun t i => t.noteStation_line before i) _ s

@[simp] theorem State.entryCheck_line (s : State) (i : StationNo) : (s.entryCheck i).line = s.line := rfl
@[simp] theorem State.handCause_line (s : State) (c : Causes) (f : Family) (i : StationNo) :
    (s.handCause c f i).line = s.line := by
  unfold State.handCause; dsimp only; split <;> simp
@[simp] theorem State.handCauseToAll_line (s : State) (c : Causes) (f : Family) : (s.handCauseToAll c f).line = s.line :=
  State.foldl_line _ (fun t i => t.handCause_line c f i) _ s
@[simp] theorem State.removeCause_line (s : State) (c : Causes) (i : StationNo) : (s.removeCause c i).line = s.line := by
  unfold State.removeCause; dsimp only; repeat' split
  all_goals simp
@[simp] theorem State.removeReceiverCause_line (s : State) (f : Family) : (s.removeReceiverCause f).line = s.line :=
  State.foldl_line _ (fun t i => by split <;> simp) _ s
@[simp] theorem State.removeTripCause_line (s : State) : s.removeTripCause.line = s.line :=
  State.foldl_line _ (fun t i => t.removeCause_line _ i) _ s
@[simp] theorem State.releaseWith_line (s : State) (i : StationNo) (a : Anomaly) : (s.releaseWith i a).line = s.line := by
  simp [State.releaseWith]
@[simp] theorem State.assign_line (s : State) (tag : Nat) (i : StationNo) : (s.assign tag i).line = s.line := by
  simp [State.assign]
@[simp] theorem State.assignUpTo_line (n : Nat) (s : State) : (s.assignUpTo n).line = s.line := by
  induction n generalizing s with
  | zero => rfl
  | succ n ih => unfold State.assignUpTo; split <;> simp [ih]
@[simp] theorem State.arbiterPass_line (s : State) : s.arbiterPass.line = s.line := by
  unfold State.arbiterPass; split <;> simp

/-! ### The chamber, closures and the trip -/

@[simp] theorem State.loadUnits_line (s : State) (tags : List Nat) (n : Nat) : (s.loadUnits tags n).line = s.line := rfl
@[simp] theorem State.applySettings_line (s : State) : s.applySettings.line = s.line := by
  unfold State.applySettings; dsimp only; split <;> simp
@[simp] theorem State.boundary_line (s : State) : s.boundary.line = s.line := by simp [State.boundary]
@[simp] theorem State.mismatchReport_line (s : State) (tag : Nat) : (s.mismatchReport tag).line = s.line := by
  unfold State.mismatchReport; repeat' split
  all_goals simp
@[simp] theorem State.waitingDecision_line (s : State) : s.waitingDecision.line = s.line := by
  unfold State.waitingDecision; repeat' split
  all_goals simp
@[simp] theorem State.joinShredQueue_line (s : State) (tag : Nat) : (s.joinShredQueue tag).line = s.line := by
  unfold State.joinShredQueue; dsimp only; split <;> simp
@[simp] theorem State.leaveShredQueue_line (s : State) (tag : Nat) : (s.leaveShredQueue tag).line = s.line := by
  unfold State.leaveShredQueue; dsimp only; split <;> simp
@[simp] theorem State.closeUnit_line (s : State) (r : ChargeRecord) (x : Nat × Nat) : (s.closeUnit r x).line = s.line := by
  unfold State.closeUnit; split
  · rfl
  · split <;> simp
@[simp] theorem State.closeUnits_line (s : State) (r : ChargeRecord) (xs : List (Nat × Nat)) :
    (s.closeUnits r xs).line = s.line := State.foldl_line _ (fun t x => t.closeUnit_line r x) xs s
@[simp] theorem State.endCharge_line (s : State) (b : Bool) (c : Charge) : (s.endCharge b c).line = s.line := by
  simp [State.endCharge]
@[simp] theorem State.endNormally_line (s : State) (c : Charge) : (s.endNormally c).line = s.line := by
  unfold State.endNormally; dsimp only; split <;> simp
@[simp] theorem State.haltChamber_line (s : State) : s.haltChamber.line = s.line := by
  unfold State.haltChamber; dsimp only; split <;> simp
@[simp] theorem State.tripEntry_line (s : State) (a : TripCauses) : (s.tripEntry a).line = s.line := by
  simp [State.tripEntry]
@[simp] theorem State.joinCauses_line (s : State) (a : TripCauses) : (s.joinCauses a).line = s.line := by
  unfold State.joinCauses; dsimp only; split <;> simp
@[simp] theorem State.addCauses_line (s : State) (a : TripCauses) : (s.addCauses a).line = s.line := by
  unfold State.addCauses; repeat' split
  all_goals simp

/-! ### Published scans at their consumers -/

@[simp] theorem State.unitRemoved_line (s : State) (tag : Nat) : (s.unitRemoved tag).line = s.line := by
  unfold State.unitRemoved; repeat' split
  all_goals simp
@[simp] theorem State.unitPulled_line (s : State) (tag : Nat) (d : DegasResult) : (s.unitPulled tag d).line = s.line := by
  unfold State.unitPulled; repeat' split
  all_goals simp
@[simp] theorem State.removeAppliance_line (s : State) (i : StationNo) : (s.removeAppliance i).line = s.line := by
  unfold State.removeAppliance; dsimp only; split <;> split <;> simp
@[simp] theorem State.pull_line (s : State) (i : StationNo) : (s.pull i).line = s.line := by
  unfold State.pull; dsimp only; split <;> simp
@[simp] theorem State.loseSignal_line (s : State) (i : StationNo) : (s.loseSignal i).line = s.line := by
  simp [State.loseSignal]
@[simp] theorem State.arrive_line (s : State) (i : StationNo) (x : Scan) : (s.arrive i x).line = s.line := by
  unfold State.arrive; dsimp only; split <;> split <;> simp
@[simp] theorem State.deliver_line (s : State) (f : Option Family) (n : Nat) : (s.deliver f n).line = s.line := by
  cases f <;> simp [State.deliver]
@[simp] theorem State.evacuate_line (s : State) (i : StationNo) (x : Scan) : (s.evacuate i x).line = s.line := by
  simp [State.evacuate]
@[simp] theorem State.runCycle_line (s : State) (i : StationNo) (x : Scan) : (s.runCycle i x).line = s.line := by
  unfold State.runCycle; dsimp only; repeat' split
  all_goals simp
@[simp] theorem State.presenceRise_line (s : State) (i : StationNo) (x : Scan) : (s.presenceRise i x).line = s.line := by
  unfold State.presenceRise; split <;> simp
@[simp] theorem State.fallInCycle_line (s : State) (i : StationNo) (x : Scan) : (s.fallInCycle i x).line = s.line := by
  unfold State.fallInCycle; split <;> simp
@[simp] theorem State.presenceFall_line (s : State) (i : StationNo) (x : Scan) : (s.presenceFall i x).line = s.line := by
  unfold State.presenceFall; split <;> simp
@[simp] theorem State.stationScan_line (s : State) (i : StationNo) (x : Scan) : (s.stationScan i x).line = s.line := by
  unfold State.stationScan; dsimp only; split <;> simp
@[simp] theorem State.detectFill_line (s : State) (f : Family) : (s.detectFill f).line = s.line := by
  unfold State.detectFill; dsimp only; repeat' split
  all_goals simp
@[simp] theorem State.receiverScan_line (s : State) (f : Family) (x : Scan) : (s.receiverScan f x).line = s.line := by
  simp [State.receiverScan]
@[simp] theorem State.loadScan_line (s : State) (c : Charge) (x : Scan) : (s.loadScan c x).line = s.line := by
  unfold State.loadScan; dsimp only; repeat' split
  all_goals simp
theorem State.integrateThen_line (s : State) (c : Charge) (x : Scan) (next : Charge → State → State)
    (h : ∀ d, (next d s).line = s.line) : (s.integrateThen c x next).line = s.line := by
  unfold State.integrateThen; split <;> simp [h]
@[simp] theorem State.windowScan_line (s : State) (c : Charge) : (s.windowScan c).line = s.line := by
  unfold State.windowScan; dsimp only; split <;> simp
@[simp] theorem State.ventScan_line (s : State) (x : Scan) (c : Charge) : (s.ventScan x c).line = s.line := by
  unfold State.ventScan; split <;> simp
@[simp] theorem State.tailScan_line (s : State) (c : Charge) (x : Scan) : (s.tailScan c x).line = s.line := by
  unfold State.tailScan; dsimp only; repeat' split
  all_goals simp
@[simp] theorem State.chamberScan_line (s : State) (x : Scan) : (s.chamberScan x).line = s.line := by
  unfold State.chamberScan; repeat' split
  all_goals first
    | rfl
    | exact State.integrateThen_line _ _ _ _ (fun d => by simp)
    | simp
@[simp] theorem State.measureHold_line (s : State) (x : Scan) : (s.measureHold x).line = s.line := by
  unfold State.measureHold; split <;> simp
@[simp] theorem State.protectionScan_line (s : State) (x : Scan) : (s.protectionScan x).line = s.line := by
  simp [State.protectionScan]
@[simp] theorem State.testThreshold_line (s : State) (n : Nat) : (s.testThreshold n).line = s.line := by
  unfold State.testThreshold; dsimp only; split <;> simp
@[simp] theorem State.writeScan_line (s : State) (x : Scan) : (s.writeScan x).line = s.line := by
  unfold State.writeScan; dsimp only; repeat' split
  all_goals simp

/-! ### Requests handled by their owners -/

@[simp] theorem State.refuse_line (s : State) (st : Status) : (s.refuse st).1.line = s.line := rfl

theorem withLayout_line {α : Type} (o : Option α) (h : α → State → State × Reply) (s : State)
    (k : ∀ a, (h a s).1.line = s.line) : (withLayout o h s).1.line = s.line := by
  cases o with
  | none => rfl
  | some a => exact k a

theorem onStation_line (n : Nat) (h : StationNo → State → State × Reply) (s : State)
    (k : ∀ i, (h i s).1.line = s.line) : (onStation n h s).1.line = s.line := by
  unfold onStation; split
  · rfl
  · exact k _

@[simp] theorem doneWith_line (s t : State) : (doneWith s t).1.line = t.line := by simp [doneWith]

@[simp] theorem State.createUnit_line (s : State) (o : AdmitOperands) (b : Bool) : (s.createUnit o b).line = s.line := by
  unfold State.createUnit; dsimp only; split <;> simp
@[simp] theorem handleAdmit_line (o : AdmitOperands) (s : State) : (handleAdmit o s).1.line = s.line := by
  unfold handleAdmit; repeat' split
  all_goals simp
@[simp] theorem State.releaseStation_line (s : State) (u : UnitRecord) : (s.releaseStation u).line = s.line := by
  unfold State.releaseStation; split <;> simp
@[simp] theorem handleWithdraw_line (tag : Nat) (s : State) : (handleWithdraw tag s).1.line = s.line := by
  unfold handleWithdraw; repeat' split
  all_goals simp
@[simp] theorem handleQueryUnit_line (tag : Nat) (s : State) : (handleQueryUnit tag s).1.line = s.line := by
  unfold handleQueryUnit; split <;> rfl
@[simp] theorem handleTakeClosed_line (s : State) : (handleTakeClosed s).1.line = s.line := rfl
@[simp] theorem handleSetClass_line (o : Nat × Option ClassOperands) (s : State) : (handleSetClass o s).1.line = s.line := by
  unfold handleSetClass; repeat' split
  all_goals simp
@[simp] theorem handleSuspend_line (i : StationNo) (s : State) : (handleSuspend i s).1.line = s.line := by
  unfold handleSuspend; dsimp only; repeat' split
  all_goals simp
@[simp] theorem handleResume_line (i : StationNo) (s : State) : (handleResume i s).1.line = s.line := by
  unfold handleResume; repeat' split
  all_goals simp
@[simp] theorem handleAbort_line (i : StationNo) (s : State) : (handleAbort i s).1.line = s.line := by
  unfold handleAbort; split <;> simp
@[simp] theorem handleLock_line (i : StationNo) (s : State) : (handleLock i s).1.line = s.line := by
  unfold handleLock; split <;> simp
@[simp] theorem State.returnToService_line (s : State) (i : StationNo) : (s.returnToService i).line = s.line := by
  simp [State.returnToService]
@[simp] theorem handleUnlock_line (i : StationNo) (s : State) : (handleUnlock i s).1.line = s.line := by
  unfold handleUnlock; repeat' split
  all_goals simp
@[simp] theorem handleReset_line (i : StationNo) (s : State) : (handleReset i s).1.line = s.line := by
  unfold handleReset; split <;> simp
@[simp] theorem handleSetTiming_line (x : StationTiming) (s : State) : (handleSetTiming x s).1.line = s.line := by
  unfold handleSetTiming; repeat' split
  all_goals rfl
@[simp] theorem handleReadTrace_line (o : Nat × Nat × Nat) (s : State) : (handleReadTrace o s).1.line = s.line := by
  unfold handleReadTrace; dsimp only; repeat' split
  all_goals rfl
@[simp] theorem handleBeginSwap_line (f : Family) (s : State) : (handleBeginSwap f s).1.line = s.line := by
  unfold handleBeginSwap; dsimp only; repeat' split
  all_goals simp
@[simp] theorem State.beginCylinder_line (s : State) (f : Family) (c : Cylinder) : (s.beginCylinder f c).line = s.line := by
  simp [State.beginCylinder]
@[simp] theorem handleEndSwap_line (o : Family × Nat) (s : State) : (handleEndSwap o s).1.line = s.line := by
  unfold handleEndSwap; dsimp only; repeat' split
  all_goals simp
@[simp] theorem handleQueryReceiver_line (f : Family) (s : State) : (handleQueryReceiver f s).1.line = s.line := rfl
@[simp] theorem handleSetFillLimit_line (o : Family × Nat) (s : State) : (handleSetFillLimit o s).1.line = s.line := by
  unfold handleSetFillLimit; repeat' split
  all_goals simp
@[simp] theorem handleStage_line (o : SettingsOperands) (s : State) : (handleStage o s).1.line = s.line := by
  unfold handleStage; repeat' split
  all_goals simp
@[simp] theorem handleStart_line (s : State) : (handleStart s).1.line = s.line := by
  unfold handleStart; repeat' split
  all_goals simp
@[simp] theorem handleStop_line (s : State) : (handleStop s).1.line = s.line := by
  unfold handleStop; repeat' split
  all_goals simp
@[simp] theorem handleSetChamberLimits_line (l : ChamberLimits) (s : State) :
    (handleSetChamberLimits l s).1.line = s.line := by
  unfold handleSetChamberLimits; repeat' split
  all_goals simp
@[simp] theorem handleReadCharge_line (n : Nat) (s : State) : (handleReadCharge n s).1.line = s.line := by
  unfold handleReadCharge; split <;> rfl
@[simp] theorem handleQueryChamber_line (s : State) : (handleQueryChamber s).1.line = s.line := rfl
@[simp] theorem handleSetGas_line (o : Nat × Option GasOperands) (s : State) : (handleSetGas o s).1.line = s.line := by
  unfold handleSetGas; repeat' split
  all_goals simp
@[simp] theorem handleSetArithmetic_line (o : Nat × Nat) (s : State) : (handleSetArithmetic o s).1.line = s.line := by
  unfold handleSetArithmetic; repeat' split
  all_goals rfl
@[simp] theorem handleQueryArithmetic_line (s : State) : (handleQueryArithmetic s).1.line = s.line := rfl
@[simp] theorem handleReadShift_line (s : State) : (handleReadShift s).1.line = s.line := rfl
@[simp] theorem handleCloseShift_line (s : State) : (handleCloseShift s).1.line = s.line := rfl
@[simp] theorem handleEmergencyTrip_line (s : State) : (handleEmergencyTrip s).1.line = s.line := by
  unfold handleEmergencyTrip; repeat' split
  all_goals simp
@[simp] theorem State.clearChamber_line (s : State) : s.clearChamber.line = s.line := by
  unfold State.clearChamber; split <;> simp
@[simp] theorem State.clearTrip_line (s : State) : s.clearTrip.line = s.line := by
  simp [State.clearTrip]; rfl
@[simp] theorem handleClearTrip_line (s : State) : (handleClearTrip s).1.line = s.line := by
  unfold handleClearTrip; repeat' split
  all_goals simp
@[simp] theorem handleSetProtection_line (l : ProtectionLimits) (s : State) : (handleSetProtection l s).1.line = s.line := by
  unfold handleSetProtection; repeat' split
  all_goals simp
@[simp] theorem handleQueryProtection_line (s : State) : (handleQueryProtection s).1.line = s.line := rfl
@[simp] theorem handleSetDivisor_line (n : Nat) (s : State) : (handleSetDivisor n s).1.line = s.line := by
  unfold handleSetDivisor; dsimp only; split <;> simp
@[simp] theorem handleSetSlot_line (o : SlotOperands) (s : State) : (handleSetSlot o s).1.line = s.line := by
  unfold handleSetSlot; repeat' split
  all_goals simp
@[simp] theorem handleScannerReset_line (s : State) : (handleScannerReset s).1.line = s.line := by
  unfold handleScannerReset; split <;> simp
@[simp] theorem handleBind_line (o : RoleNo × Option Nat) (s : State) : (handleBind o s).1.line = s.line := by
  unfold handleBind; repeat' split
  all_goals simp
@[simp] theorem handleSetSignalLimits_line (o : Nat × Nat) (s : State) : (handleSetSignalLimits o s).1.line = s.line := by
  unfold handleSetSignalLimits; repeat' split
  all_goals simp
@[simp] theorem handleQueryImage_line (s : State) : (handleQueryImage s).1.line = s.line := rfl
@[simp] theorem handleStream_line (o : StreamOperands) (s : State) : (handleStream o s).1.line = s.line := by
  unfold handleStream; split <;> simp
@[simp] theorem handleDrain_line (n : Nat) (s : State) : (handleDrain n s).1.line = s.line := by
  unfold handleDrain; repeat' split
  all_goals simp
@[simp] theorem State.goOnline_line (s : State) : s.goOnline.line = s.line := by simp [State.goOnline]
@[simp] theorem handleGoOnline_line (s : State) : (handleGoOnline s).1.line = s.line := by
  unfold handleGoOnline; repeat' split
  all_goals simp
@[simp] theorem handleGoOffline_line (s : State) : (handleGoOffline s).1.line = s.line := by
  unfold handleGoOffline; repeat' split
  all_goals simp
@[simp] theorem State.lineRestart_line (s : State) : s.lineRestart.line = s.line := by
  rw [State.lineRestart, State.noteStations_line]; rfl
@[simp] theorem handleLineRestart_line (s : State) : (handleLineRestart s).1.line = s.line := s.lineRestart_line
@[simp] theorem handleSetEnables_line (e : BitVec 13) (s : State) : (handleSetEnables e s).1.line = s.line := rfl
@[simp] theorem handleQueryStatus_line (s : State) : (handleQueryStatus s).1.line = s.line := rfl

end Sys2Proof.Machine
end

