-- ==== Sys2Proof/Laws/Ops.lean ====
section
/-! SUPPORT. Laws/Ops.lean: for each shared operation of Machine/Ops.lean, what it can do, said once. -/

namespace Sys2Proof.Machine

/-! ### Raising a notice (R189) -/

/-- R189: everything that raising a notice can do. -/
theorem State.raise_cases (n : Notice) (s : State) :
    (s.link.enabled n = false ∧ s.raise n = s)
      ∨ (s.link.enabled n = true ∧ s.link.notices.length < Config.noticeQueueSize
          ∧ s.raise n = s.setLink { s.link with notices := s.link.notices ++ [n] })
      ∨ (s.link.enabled n = true ∧ Config.noticeQueueSize ≤ s.link.notices.length
          ∧ s.raise n = s.setFlag .noticeLost) := by
  unfold State.raise
  cases h : s.link.enabled n
  · exact .inl ⟨rfl, by simp⟩
  · by_cases k : s.link.notices.length < Config.noticeQueueSize
    · exact .inr (.inl ⟨rfl, k, by simp [k]⟩)
    · exact .inr (.inr ⟨rfl, Nat.le_of_not_lt k, by simp [k]⟩)

@[simp] theorem State.setFlag_pending (x : ReadFlag) (s : State) : (s.setFlag x).pending = s.pending := rfl
@[simp] theorem State.raise_pending (n : Notice) (s : State) : (s.raise n).pending = s.pending := by
  obtain ⟨_, h⟩ | ⟨_, _, h⟩ | ⟨_, _, h⟩ := State.raise_cases n s <;> rw [h] <;> rfl
@[simp] theorem State.setFlag_now (x : ReadFlag) (s : State) : (s.setFlag x).now = s.now := rfl
@[simp] theorem State.raise_now (n : Notice) (s : State) : (s.raise n).now = s.now := by
  obtain ⟨_, h⟩ | ⟨_, _, h⟩ | ⟨_, _, h⟩ := State.raise_cases n s <;> rw [h] <;> rfl
@[simp] theorem State.setFlag_choices (x : ReadFlag) (s : State) : (s.setFlag x).choices = s.choices := rfl
@[simp] theorem State.raise_choices (n : Notice) (s : State) : (s.raise n).choices = s.choices := by
  obtain ⟨_, h⟩ | ⟨_, _, h⟩ | ⟨_, _, h⟩ := State.raise_cases n s <;> rw [h] <;> rfl
@[simp] theorem State.setFlag_tracker (x : ReadFlag) (s : State) : (s.setFlag x).tracker = s.tracker := rfl
@[simp] theorem State.raise_tracker (n : Notice) (s : State) : (s.raise n).tracker = s.tracker := by
  obtain ⟨_, h⟩ | ⟨_, _, h⟩ | ⟨_, _, h⟩ := State.raise_cases n s <;> rw [h] <;> rfl
@[simp] theorem State.setFlag_stations (x : ReadFlag) (s : State) : (s.setFlag x).stations = s.stations := rfl
@[simp] theorem State.raise_stations (n : Notice) (s : State) : (s.raise n).stations = s.stations := by
  obtain ⟨_, h⟩ | ⟨_, _, h⟩ | ⟨_, _, h⟩ := State.raise_cases n s <;> rw [h] <;> rfl
@[simp] theorem State.setFlag_timing (x : ReadFlag) (s : State) : (s.setFlag x).timing = s.timing := rfl
@[simp] theorem State.raise_timing (n : Notice) (s : State) : (s.raise n).timing = s.timing := by
  obtain ⟨_, h⟩ | ⟨_, _, h⟩ | ⟨_, _, h⟩ := State.raise_cases n s <;> rw [h] <;> rfl
@[simp] theorem State.setFlag_receiverF (x : ReadFlag) (s : State) : (s.setFlag x).receiverF = s.receiverF := rfl
@[simp] theorem State.raise_receiverF (n : Notice) (s : State) : (s.raise n).receiverF = s.receiverF := by
  obtain ⟨_, h⟩ | ⟨_, _, h⟩ | ⟨_, _, h⟩ := State.raise_cases n s <;> rw [h] <;> rfl
@[simp] theorem State.setFlag_receiverH (x : ReadFlag) (s : State) : (s.setFlag x).receiverH = s.receiverH := rfl
@[simp] theorem State.raise_receiverH (n : Notice) (s : State) : (s.raise n).receiverH = s.receiverH := by
  obtain ⟨_, h⟩ | ⟨_, _, h⟩ | ⟨_, _, h⟩ := State.raise_cases n s <;> rw [h] <;> rfl
@[simp] theorem State.setFlag_chamber (x : ReadFlag) (s : State) : (s.setFlag x).chamber = s.chamber := rfl
@[simp] theorem State.raise_chamber (n : Notice) (s : State) : (s.raise n).chamber = s.chamber := by
  obtain ⟨_, h⟩ | ⟨_, _, h⟩ | ⟨_, _, h⟩ := State.raise_cases n s <;> rw [h] <;> rfl
@[simp] theorem State.setFlag_gases (x : ReadFlag) (s : State) : (s.setFlag x).gases = s.gases := rfl
@[simp] theorem State.raise_gases (n : Notice) (s : State) : (s.raise n).gases = s.gases := by
  obtain ⟨_, h⟩ | ⟨_, _, h⟩ | ⟨_, _, h⟩ := State.raise_cases n s <;> rw [h] <;> rfl
@[simp] theorem State.setFlag_deadBand (x : ReadFlag) (s : State) : (s.setFlag x).deadBand = s.deadBand := rfl
@[simp] theorem State.raise_deadBand (n : Notice) (s : State) : (s.raise n).deadBand = s.deadBand := by
  obtain ⟨_, h⟩ | ⟨_, _, h⟩ | ⟨_, _, h⟩ := State.raise_cases n s <;> rw [h] <;> rfl
@[simp] theorem State.setFlag_maximumBaseline (x : ReadFlag) (s : State) : (s.setFlag x).maximumBaseline = s.maximumBaseline := rfl
@[simp] theorem State.raise_maximumBaseline (n : Notice) (s : State) : (s.raise n).maximumBaseline = s.maximumBaseline := by
  obtain ⟨_, h⟩ | ⟨_, _, h⟩ | ⟨_, _, h⟩ := State.raise_cases n s <;> rw [h] <;> rfl
@[simp] theorem State.setFlag_shift (x : ReadFlag) (s : State) : (s.setFlag x).shift = s.shift := rfl
@[simp] theorem State.raise_shift (n : Notice) (s : State) : (s.raise n).shift = s.shift := by
  obtain ⟨_, h⟩ | ⟨_, _, h⟩ | ⟨_, _, h⟩ := State.raise_cases n s <;> rw [h] <;> rfl
@[simp] theorem State.setFlag_protection (x : ReadFlag) (s : State) : (s.setFlag x).protection = s.protection := rfl
@[simp] theorem State.raise_protection (n : Notice) (s : State) : (s.raise n).protection = s.protection := by
  obtain ⟨_, h⟩ | ⟨_, _, h⟩ | ⟨_, _, h⟩ := State.raise_cases n s <;> rw [h] <;> rfl
@[simp] theorem State.setFlag_scanner (x : ReadFlag) (s : State) : (s.setFlag x).scanner = s.scanner := rfl
@[simp] theorem State.raise_scanner (n : Notice) (s : State) : (s.raise n).scanner = s.scanner := by
  obtain ⟨_, h⟩ | ⟨_, _, h⟩ | ⟨_, _, h⟩ := State.raise_cases n s <;> rw [h] <;> rfl
@[simp] theorem State.setFlag_toTake (x : ReadFlag) (s : State) : (s.setFlag x).toTake = s.toTake := rfl
@[simp] theorem State.raise_toTake (n : Notice) (s : State) : (s.raise n).toTake = s.toTake := by
  obtain ⟨_, h⟩ | ⟨_, _, h⟩ | ⟨_, _, h⟩ := State.raise_cases n s <;> rw [h] <;> rfl
@[simp] theorem State.setFlag_sample (x : ReadFlag) (s : State) : (s.setFlag x).sample = s.sample := rfl
@[simp] theorem State.raise_sample (n : Notice) (s : State) : (s.raise n).sample = s.sample := by
  obtain ⟨_, h⟩ | ⟨_, _, h⟩ | ⟨_, _, h⟩ := State.raise_cases n s <;> rw [h] <;> rfl
@[simp] theorem State.setFlag_pins (x : ReadFlag) (s : State) : (s.setFlag x).pins = s.pins := rfl
@[simp] theorem State.raise_pins (n : Notice) (s : State) : (s.raise n).pins = s.pins := by
  obtain ⟨_, h⟩ | ⟨_, _, h⟩ | ⟨_, _, h⟩ := State.raise_cases n s <;> rw [h] <;> rfl
@[simp] theorem State.raise_link_mode (n : Notice) (s : State) : (s.raise n).link.mode = s.link.mode := by
  obtain ⟨_, h⟩ | ⟨_, _, h⟩ | ⟨_, _, h⟩ := State.raise_cases n s <;> rw [h] <;> rfl
@[simp] theorem State.setFlag_link_mode (x : ReadFlag) (s : State) : (s.setFlag x).link.mode = s.link.mode := rfl
@[simp] theorem State.raise_link_rx (n : Notice) (s : State) : (s.raise n).link.rx = s.link.rx := by
  obtain ⟨_, h⟩ | ⟨_, _, h⟩ | ⟨_, _, h⟩ := State.raise_cases n s <;> rw [h] <;> rfl
@[simp] theorem State.setFlag_link_rx (x : ReadFlag) (s : State) : (s.setFlag x).link.rx = s.link.rx := rfl
@[simp] theorem State.raise_link_requests (n : Notice) (s : State) : (s.raise n).link.requests = s.link.requests := by
  obtain ⟨_, h⟩ | ⟨_, _, h⟩ | ⟨_, _, h⟩ := State.raise_cases n s <;> rw [h] <;> rfl
@[simp] theorem State.setFlag_link_requests (x : ReadFlag) (s : State) : (s.setFlag x).link.requests = s.link.requests := rfl
@[simp] theorem State.raise_link_reply (n : Notice) (s : State) : (s.raise n).link.reply = s.link.reply := by
  obtain ⟨_, h⟩ | ⟨_, _, h⟩ | ⟨_, _, h⟩ := State.raise_cases n s <;> rw [h] <;> rfl
@[simp] theorem State.setFlag_link_reply (x : ReadFlag) (s : State) : (s.setFlag x).link.reply = s.link.reply := rfl
@[simp] theorem State.raise_link_sending (n : Notice) (s : State) : (s.raise n).link.sending = s.link.sending := by
  obtain ⟨_, h⟩ | ⟨_, _, h⟩ | ⟨_, _, h⟩ := State.raise_cases n s <;> rw [h] <;> rfl
@[simp] theorem State.setFlag_link_sending (x : ReadFlag) (s : State) : (s.setFlag x).link.sending = s.link.sending := rfl
@[simp] theorem State.raise_link_enables (n : Notice) (s : State) : (s.raise n).link.enables = s.link.enables := by
  obtain ⟨_, h⟩ | ⟨_, _, h⟩ | ⟨_, _, h⟩ := State.raise_cases n s <;> rw [h] <;> rfl
@[simp] theorem State.setFlag_link_enables (x : ReadFlag) (s : State) : (s.setFlag x).link.enables = s.link.enables := rfl
@[simp] theorem State.raise_station (n : Notice) (s : State) (i : StationNo) : (s.raise n).station i = s.station i := by
  simp [State.station]
@[simp] theorem State.raise_receiver (n : Notice) (s : State) (f : Family) : (s.raise n).receiver f = s.receiver f := by
  cases f <;> simp [State.receiver]
@[simp] theorem State.setFlag_station (x : ReadFlag) (s : State) (i : StationNo) : (s.setFlag x).station i = s.station i := rfl

/-- R189: a notice raised leaves at most 32 notices. -/
theorem State.raise_notices_length (n : Notice) (s : State) (h : s.link.notices.length ≤ 32) :
    (s.raise n).link.notices.length ≤ 32 := by
  obtain ⟨_, e⟩ | ⟨_, k, e⟩ | ⟨_, _, e⟩ := State.raise_cases n s
  · rw [e]; exact h
  · rw [e]; simp [Config.noticeQueueSize] at k ⊢; omega
  · rw [e]; exact h

/-! ### The end of a command -/

@[simp] theorem State.settle_pending (s : State) : s.settle.pending = s.pending := rfl
@[simp] theorem State.settle_now (s : State) : s.settle.now = s.now := rfl
@[simp] theorem State.settle_choices (s : State) : s.settle.choices = s.choices := rfl
@[simp] theorem State.settle_tracker (s : State) : s.settle.tracker = s.tracker := rfl
@[simp] theorem State.settle_stations (s : State) : s.settle.stations = s.stations := rfl
@[simp] theorem State.settle_timing (s : State) : s.settle.timing = s.timing := rfl
@[simp] theorem State.settle_receiverF (s : State) : s.settle.receiverF = s.receiverF := rfl
@[simp] theorem State.settle_receiverH (s : State) : s.settle.receiverH = s.receiverH := rfl
@[simp] theorem State.settle_chamber (s : State) : s.settle.chamber = s.chamber := rfl
@[simp] theorem State.settle_gases (s : State) : s.settle.gases = s.gases := rfl
@[simp] theorem State.settle_deadBand (s : State) : s.settle.deadBand = s.deadBand := rfl
@[simp] theorem State.settle_maximumBaseline (s : State) : s.settle.maximumBaseline = s.maximumBaseline := rfl
@[simp] theorem State.settle_shift (s : State) : s.settle.shift = s.shift := rfl
@[simp] theorem State.settle_protection (s : State) : s.settle.protection = s.protection := rfl
@[simp] theorem State.settle_scanner (s : State) : s.settle.scanner = s.scanner := rfl
@[simp] theorem State.settle_toTake (s : State) : s.settle.toTake = s.toTake := rfl
@[simp] theorem State.settle_sample (s : State) : s.settle.sample = s.sample := rfl
@[simp] theorem State.settle_station (s : State) (i : StationNo) : s.settle.station i = s.station i := rfl
@[simp] theorem State.settle_receiver (s : State) (f : Family) : s.settle.receiver f = s.receiver f := by cases f <;> rfl
@[simp] theorem State.settle_pins (s : State) : s.settle.pins = s.driven := rfl
@[simp] theorem State.settle_link (s : State) : s.settle.link = s.link.arbitrate := rfl
@[simp] theorem State.settle_driven (s : State) : s.settle.driven = s.driven := rfl

/-- R188: everything that the choice of the next frame can do. -/
theorem Link.arbitrate_cases (l : Link) :
    (∃ x, l.sending = some x ∧ l.arbitrate = l)
      ∨ (∃ r, l.sending = none ∧ l.reply = some r ∧ l.arbitrate = { l with sending := some ⟨r, 0⟩, reply := none })
      ∨ (∃ n rest, l.sending = none ∧ l.reply = none ∧ l.notices = n :: rest
          ∧ l.arbitrate = { l with sending := some ⟨n.frame, 0⟩, notices := rest })
      ∨ (l.sending = none ∧ l.reply = none ∧ l.notices = [] ∧ l.arbitrate = l) := by
  unfold Link.arbitrate
  rcases hs : l.sending with _ | x
  · rcases hr : l.reply with _ | r
    · rcases hn : l.notices with _ | ⟨n, rest⟩
      · exact .inr (.inr (.inr ⟨rfl, rfl, rfl, rfl⟩))
      · exact .inr (.inr (.inl ⟨n, rest, rfl, rfl, rfl, rfl⟩))
    · exact .inr (.inl ⟨r, rfl, rfl, rfl⟩)
  · exact .inl ⟨x, rfl, rfl⟩

@[simp] theorem Link.arbitrate_mode (l : Link) : l.arbitrate.mode = l.mode := by
  obtain ⟨_, _, h⟩ | ⟨_, _, _, h⟩ | ⟨_, _, _, _, _, h⟩ | ⟨_, _, _, h⟩ := l.arbitrate_cases <;> rw [h]
@[simp] theorem Link.arbitrate_rx (l : Link) : l.arbitrate.rx = l.rx := by
  obtain ⟨_, _, h⟩ | ⟨_, _, _, h⟩ | ⟨_, _, _, _, _, h⟩ | ⟨_, _, _, h⟩ := l.arbitrate_cases <;> rw [h]
@[simp] theorem Link.arbitrate_requests (l : Link) : l.arbitrate.requests = l.requests := by
  obtain ⟨_, _, h⟩ | ⟨_, _, _, h⟩ | ⟨_, _, _, _, _, h⟩ | ⟨_, _, _, h⟩ := l.arbitrate_cases <;> rw [h]
@[simp] theorem Link.arbitrate_enables (l : Link) : l.arbitrate.enables = l.enables := by
  obtain ⟨_, _, h⟩ | ⟨_, _, _, h⟩ | ⟨_, _, _, _, _, h⟩ | ⟨_, _, _, h⟩ := l.arbitrate_cases <;> rw [h]
@[simp] theorem Link.arbitrate_flags (l : Link) : l.arbitrate.flags = l.flags := by
  obtain ⟨_, _, h⟩ | ⟨_, _, _, h⟩ | ⟨_, _, _, _, _, h⟩ | ⟨_, _, _, h⟩ := l.arbitrate_cases <;> rw [h]

/-- R188: after the choice the line is free only with nothing to send. -/
theorem Link.arbitrate_served (l : Link) :
    l.arbitrate.sending = none → l.arbitrate.reply = none ∧ l.arbitrate.notices = [] := by
  obtain ⟨_, e, h⟩ | ⟨_, _, _, h⟩ | ⟨_, _, _, _, _, h⟩ | ⟨e, r, n, h⟩ := l.arbitrate_cases <;> rw [h] <;> simp_all

/-- R188: the choice never lengthens the Notice Queue. -/
theorem Link.arbitrate_notices_length (l : Link) : l.arbitrate.notices.length ≤ l.notices.length := by
  obtain ⟨_, _, h⟩ | ⟨_, _, _, h⟩ | ⟨_, _, _, _, e, h⟩ | ⟨_, _, _, h⟩ := l.arbitrate_cases <;> rw [h] <;> simp_all

/-! ### The passage of time (8.1) -/

@[simp] theorem State.elapse_pending (n : Nat) (s : State) : (s.elapse n).pending = s.pending := rfl
@[simp] theorem State.elapse_choices (n : Nat) (s : State) : (s.elapse n).choices = s.choices := rfl
@[simp] theorem State.elapse_tracker (n : Nat) (s : State) : (s.elapse n).tracker = s.tracker := rfl
@[simp] theorem State.elapse_timing (n : Nat) (s : State) : (s.elapse n).timing = s.timing := rfl
@[simp] theorem State.elapse_receiverF (n : Nat) (s : State) : (s.elapse n).receiverF = s.receiverF := rfl
@[simp] theorem State.elapse_receiverH (n : Nat) (s : State) : (s.elapse n).receiverH = s.receiverH := rfl
@[simp] theorem State.elapse_gases (n : Nat) (s : State) : (s.elapse n).gases = s.gases := rfl
@[simp] theorem State.elapse_deadBand (n : Nat) (s : State) : (s.elapse n).deadBand = s.deadBand := rfl
@[simp] theorem State.elapse_maximumBaseline (n : Nat) (s : State) : (s.elapse n).maximumBaseline = s.maximumBaseline := rfl
@[simp] theorem State.elapse_shift (n : Nat) (s : State) : (s.elapse n).shift = s.shift := rfl
@[simp] theorem State.elapse_protection (n : Nat) (s : State) : (s.elapse n).protection = s.protection := rfl
@[simp] theorem State.elapse_toTake (n : Nat) (s : State) : (s.elapse n).toTake = s.toTake := rfl
@[simp] theorem State.elapse_sample (n : Nat) (s : State) : (s.elapse n).sample = s.sample := rfl
@[simp] theorem State.elapse_pins (n : Nat) (s : State) : (s.elapse n).pins = s.pins := rfl
@[simp] theorem State.elapse_now (n : Nat) (s : State) : (s.elapse n).now = s.now + n := rfl
@[simp] theorem State.elapse_station (n : Nat) (s : State) (i : StationNo) :
    (s.elapse n).station i = (s.station i).elapse n := by simp [State.elapse, State.station]

/-- Everything that a dated event's command can do. -/
theorem State.atDate_cases (n : Nat) (act : State → State) (s : State) :
    (s.mayPass n = true ∧ s.atDate n act = act (s.elapse n)) ∨ (s.mayPass n = false ∧ s.atDate n act = s) := by
  unfold State.atDate
  cases h : s.mayPass n <;> simp

/-- A dated event that is due acts at once. -/
@[simp] theorem State.mayPass_zero (s : State) : s.mayPass 0 = true := by simp [State.mayPass]

/-- R150: ticks that may pass never pass beyond the scan tick. -/
theorem State.le_countdown_of_mayPass {n : Nat} {s : State} (h : s.mayPass n = true) : n ≤ s.scanner.countdown := by
  have := List.all_eq_true.mp h s.scanner.countdown (by simp [State.dates])
  simpa using this

/-- R150, R151: ticks that may pass keep the sum of the ticks since the previous scan start and the countdown. -/
theorem State.elapse_scanner_sum {n : Nat} {s : State} (h : s.mayPass n = true) :
    (s.elapse n).scanner.sinceStart + (s.elapse n).scanner.countdown = s.scanner.sinceStart + s.scanner.countdown := by
  have := State.le_countdown_of_mayPass h
  simp only [State.elapse, Scanner.elapse]
  omega

/-! ### Requests (R186, R187) -/

@[simp] theorem State.takeFromQueue_pending (s : State) : s.takeFromQueue.pending = s.pending := rfl
@[simp] theorem State.sends_pending (f : TxFrame) (s : State) : (s.sends f).pending = s.pending := rfl
@[simp] theorem State.takeFromQueue_now (s : State) : s.takeFromQueue.now = s.now := rfl
@[simp] theorem State.sends_now (f : TxFrame) (s : State) : (s.sends f).now = s.now := rfl
@[simp] theorem State.takeFromQueue_choices (s : State) : s.takeFromQueue.choices = s.choices := rfl
@[simp] theorem State.sends_choices (f : TxFrame) (s : State) : (s.sends f).choices = s.choices := rfl
@[simp] theorem State.takeFromQueue_tracker (s : State) : s.takeFromQueue.tracker = s.tracker := rfl
@[simp] theorem State.sends_tracker (f : TxFrame) (s : State) : (s.sends f).tracker = s.tracker := rfl
@[simp] theorem State.takeFromQueue_stations (s : State) : s.takeFromQueue.stations = s.stations := rfl
@[simp] theorem State.sends_stations (f : TxFrame) (s : State) : (s.sends f).stations = s.stations := rfl
@[simp] theorem State.takeFromQueue_timing (s : State) : s.takeFromQueue.timing = s.timing := rfl
@[simp] theorem State.sends_timing (f : TxFrame) (s : State) : (s.sends f).timing = s.timing := rfl
@[simp] theorem State.takeFromQueue_receiverF (s : State) : s.takeFromQueue.receiverF = s.receiverF := rfl
@[simp] theorem State.sends_receiverF (f : TxFrame) (s : State) : (s.sends f).receiverF = s.receiverF := rfl
@[simp] theorem State.takeFromQueue_receiverH (s : State) : s.takeFromQueue.receiverH = s.receiverH := rfl
@[simp] theorem State.sends_receiverH (f : TxFrame) (s : State) : (s.sends f).receiverH = s.receiverH := rfl
@[simp] theorem State.takeFromQueue_chamber (s : State) : s.takeFromQueue.chamber = s.chamber := rfl
@[simp] theorem State.sends_chamber (f : TxFrame) (s : State) : (s.sends f).chamber = s.chamber := rfl
@[simp] theorem State.takeFromQueue_gases (s : State) : s.takeFromQueue.gases = s.gases := rfl
@[simp] theorem State.sends_gases (f : TxFrame) (s : State) : (s.sends f).gases = s.gases := rfl
@[simp] theorem State.takeFromQueue_deadBand (s : State) : s.takeFromQueue.deadBand = s.deadBand := rfl
@[simp] theorem State.sends_deadBand (f : TxFrame) (s : State) : (s.sends f).deadBand = s.deadBand := rfl
@[simp] theorem State.takeFromQueue_maximumBaseline (s : State) : s.takeFromQueue.maximumBaseline = s.maximumBaseline := rfl
@[simp] theorem State.sends_maximumBaseline (f : TxFrame) (s : State) : (s.sends f).maximumBaseline = s.maximumBaseline := rfl
@[simp] theorem State.takeFromQueue_shift (s : State) : s.takeFromQueue.shift = s.shift := rfl
@[simp] theorem State.sends_shift (f : TxFrame) (s : State) : (s.sends f).shift = s.shift := rfl
@[simp] theorem State.takeFromQueue_protection (s : State) : s.takeFromQueue.protection = s.protection := rfl
@[simp] theorem State.sends_protection (f : TxFrame) (s : State) : (s.sends f).protection = s.protection := rfl
@[simp] theorem State.takeFromQueue_scanner (s : State) : s.takeFromQueue.scanner = s.scanner := rfl
@[simp] theorem State.sends_scanner (f : TxFrame) (s : State) : (s.sends f).scanner = s.scanner := rfl
@[simp] theorem State.takeFromQueue_toTake (s : State) : s.takeFromQueue.toTake = s.toTake := rfl
@[simp] theorem State.sends_toTake (f : TxFrame) (s : State) : (s.sends f).toTake = s.toTake := rfl
@[simp] theorem State.takeFromQueue_sample (s : State) : s.takeFromQueue.sample = s.sample := rfl
@[simp] theorem State.sends_sample (f : TxFrame) (s : State) : (s.sends f).sample = s.sample := rfl
@[simp] theorem State.takeFromQueue_pins (s : State) : s.takeFromQueue.pins = s.pins := rfl
@[simp] theorem State.takeFromQueue_station (s : State) (i : StationNo) : s.takeFromQueue.station i = s.station i := rfl
@[simp] theorem State.takeFromQueue_receiver (s : State) (f : Family) : s.takeFromQueue.receiver f = s.receiver f := by
  cases f <;> rfl
@[simp] theorem State.sends_station (f : TxFrame) (s : State) (i : StationNo) : (s.sends f).station i = s.station i := rfl
@[simp] theorem State.sends_receiver (f : TxFrame) (s : State) (g : Family) : (s.sends f).receiver g = s.receiver g := by
  cases g <;> rfl
@[simp] theorem State.sends_pins (f : TxFrame) (s : State) : (s.sends f).pins = s.driven := rfl
@[simp] theorem State.takeFromQueue_link_mode (s : State) : s.takeFromQueue.link.mode = s.link.mode := rfl
@[simp] theorem State.takeFromQueue_link_rx (s : State) : s.takeFromQueue.link.rx = s.link.rx := rfl
@[simp] theorem State.takeFromQueue_link_reply (s : State) : s.takeFromQueue.link.reply = s.link.reply := rfl
@[simp] theorem State.takeFromQueue_link_notices (s : State) : s.takeFromQueue.link.notices = s.link.notices := rfl
@[simp] theorem State.takeFromQueue_link_enables (s : State) : s.takeFromQueue.link.enables = s.link.enables := rfl
@[simp] theorem State.takeFromQueue_link_flags (s : State) : s.takeFromQueue.link.flags = s.link.flags := rfl
@[simp] theorem State.takeFromQueue_link_sending (s : State) : s.takeFromQueue.link.sending = s.link.sending := rfl
@[simp] theorem State.sends_link_mode (f : TxFrame) (s : State) : (s.sends f).link.mode = s.link.mode := by
  unfold State.sends; dsimp only; split <;> rfl
@[simp] theorem State.sends_link_rx (f : TxFrame) (s : State) : (s.sends f).link.rx = s.link.rx := by
  unfold State.sends; dsimp only; split <;> rfl
@[simp] theorem State.sends_link_requests (f : TxFrame) (s : State) : (s.sends f).link.requests = s.link.requests := by
  unfold State.sends; dsimp only; split <;> rfl
@[simp] theorem State.sends_link_notices (f : TxFrame) (s : State) : (s.sends f).link.notices = s.link.notices := by
  unfold State.sends; dsimp only; split <;> rfl
@[simp] theorem State.sends_link_enables (f : TxFrame) (s : State) : (s.sends f).link.enables = s.link.enables := by
  unfold State.sends; dsimp only; split <;> rfl
@[simp] theorem State.sends_link_flags (f : TxFrame) (s : State) : (s.sends f).link.flags = s.link.flags := by
  unfold State.sends; dsimp only; split <;> rfl

/-- The turn of a request, decided and said. -/
theorem State.turnOf_iff (s : State) (r : Request) : s.turnOf r = true ↔ s.TurnOf r := by
  by_cases k : r.kind = 0x3E#8 <;> simp [State.turnOf, State.TurnOf, State.heldByScan, restartKind, and_assoc, k]

/-- R183: only LINE_RESTART is held by a scan that is partly taken. -/
theorem State.turnOf_of_ne {s : State} {r : Request} (k : r.kind ≠ 0x3E#8) :
    s.TurnOf r ↔ s.link.reply = none ∧ (s.link.requests = [] ∨ s.link.requests.head? = some r) := by
  simp [State.TurnOf, k]

/-- R188: answering a state whose reply is none and settling it is sending the reply. -/
theorem State.answerWith_settle (f : TxFrame) (s : State) (h : s.link.reply = none) :
    (s.answerWith f).settle = s.sends f := by
  rcases hs : s.link.sending with _ | x <;>
    simp [State.answerWith, State.settle, State.sends, State.setLink, Link.arbitrate, State.driven, State.station, hs, ← h]

/-- R186, R187: a request taken in its turn. -/
theorem takeRequest_turn (r : Request) (handle : State → State × Reply) (s : State) (ht : s.TurnOf r)
    (hl : (handle s.takeFromQueue).1.line = s.takeFromQueue.line) :
    takeRequest r handle s
      = .next ((handle s.takeFromQueue).1.sends
          (replyFrame r.kind r.tag (handle s.takeFromQueue).2.status (handle s.takeFromQueue).2.body)) := by
  have hr : (handle s.takeFromQueue).1.link.reply = none := by
    rw [(State.line_fields hl).2.2.2.2.2.2.1]; exact ht.1
  unfold takeRequest
  rw [if_pos ((State.turnOf_iff s r).mpr ht)]
  rw [← State.answerWith_settle _ _ hr]; rfl

/-- R186: a request received out of its turn. -/
theorem takeRequest_late (r : Request) (handle : State → State × Reply) (s : State) (ht : ¬ s.TurnOf r) :
    takeRequest r handle s = .next (s.receiveRequest r).settle := by
  unfold takeRequest
  rw [if_neg (fun h => ht ((State.turnOf_iff s r).mp h))]

/-- R160: everything that taking a published scan can do. -/
theorem takeScan_cases (c : Consumer) (act : Scan → State → State) (s : State) :
    (scanFor c s.toTake = none ∧ takeScan c act s = .next s.settle)
      ∨ (∃ x, scanFor c s.toTake = some x
          ∧ takeScan c act s = .next (act x { s with toTake := withoutScanFor c s.toTake }).settle) := by
  unfold takeScan
  rcases h : scanFor c s.toTake with _ | x
  · exact .inl ⟨rfl, rfl⟩
  · exact .inr ⟨x, rfl, rfl⟩

/-! ### The handler of each request -/

/-- The owner's handling of a command that is a request; none for the commands that are events, and for BAD_KIND. -/
def handlerOf (i : Instr) : Option (State → State × Reply) :=
  match i with
  | .powerOn => none
  | .frameReceived _ _ _ _ => none
  | .frameGapTimeout => none
  | .transmitComplete => none
  | .badKind _ _ _ => none
  | .admitUnit _ payload => some (withLayout (readAdmit payload) handleAdmit)
  | .withdrawUnit _ payload => some (withLayout (readUnitTag payload) handleWithdraw)
  | .queryUnit _ payload => some (withLayout (readUnitTag payload) handleQueryUnit)
  | .takeClosed _ payload => some (withLayout (readNothing payload) fun _ => handleTakeClosed)
  | .setClassEntry _ payload => some (withLayout (readSetClass payload) handleSetClass)
  | .suspendStation _ payload => some (withLayout (readStation payload) fun n => onStation n handleSuspend)
  | .resumeStation _ payload => some (withLayout (readStation payload) fun n => onStation n handleResume)
  | .abortStation _ payload => some (withLayout (readStation payload) fun n => onStation n handleAbort)
  | .lockStation _ payload => some (withLayout (readStation payload) fun n => onStation n handleLock)
  | .unlockStation _ payload => some (withLayout (readStation payload) fun n => onStation n handleUnlock)
  | .resetStation _ payload => some (withLayout (readStation payload) fun n => onStation n handleReset)
  | .setStationTiming _ payload => some (withLayout (readTiming payload) handleSetTiming)
  | .readTrace _ payload => some (withLayout (readReadTrace payload) handleReadTrace)
  | .beginSwap _ payload => some (withLayout (readReceiver payload) handleBeginSwap)
  | .endSwap _ payload => some (withLayout (readReceiverAndNumber payload) handleEndSwap)
  | .queryReceiver _ payload => some (withLayout (readReceiver payload) handleQueryReceiver)
  | .setFillLimit _ payload => some (withLayout (readReceiverAndNumber payload) handleSetFillLimit)
  | .stageChamberSettings _ payload => some (withLayout (readSettings payload) handleStage)
  | .startChamber _ payload => some (withLayout (readNothing payload) fun _ => handleStart)
  | .stopChamber _ payload => some (withLayout (readNothing payload) fun _ => handleStop)
  | .setChamberLimits _ payload => some (withLayout (readChamberLimits payload) handleSetChamberLimits)
  | .readCharge _ payload => some (withLayout (readChargeNumber payload) handleReadCharge)
  | .queryChamber _ payload => some (withLayout (readNothing payload) fun _ => handleQueryChamber)
  | .setGasEntry _ payload => some (withLayout (readSetGas payload) handleSetGas)
  | .setArithmeticLimits _ payload => some (withLayout (readArithmeticLimits payload) handleSetArithmetic)
  | .queryArithmetic _ payload => some (withLayout (readNothing payload) fun _ => handleQueryArithmetic)
  | .readShift _ payload => some (withLayout (readNothing payload) fun _ => handleReadShift)
  | .closeShift _ payload => some (withLayout (readNothing payload) fun _ => handleCloseShift)
  | .setProtectionLimits _ payload => some (withLayout (readProtectionLimits payload) handleSetProtection)
  | .emergencyTrip _ payload => some (withLayout (readNothing payload) fun _ => handleEmergencyTrip)
  | .clearTrip _ payload => some (withLayout (readNothing payload) fun _ => handleClearTrip)
  | .queryProtection _ payload => some (withLayout (readNothing payload) fun _ => handleQueryProtection)
  | .setScanDivisor _ payload => some (withLayout (readDivisor payload) handleSetDivisor)
  | .setScanSlot _ payload => some (withLayout (readSlot payload) handleSetSlot)
  | .scannerReset _ payload => some (withLayout (readNothing payload) fun _ => handleScannerReset)
  | .bindSignal _ payload => some (withLayout (readBinding payload) handleBind)
  | .setSignalLimits _ payload => some (withLayout (readSignalLimits payload) handleSetSignalLimits)
  | .queryImage _ payload => some (withLayout (readNothing payload) fun _ => handleQueryImage)
  | .streamControl _ payload => some (withLayout (readStream payload) handleStream)
  | .drainSamples _ payload => some (withLayout (readMaximum payload) handleDrain)
  | .setNoticeEnables _ payload => some (withLayout (readEnables payload) handleSetEnables)
  | .goOnline _ payload => some (withLayout (readNothing payload) fun _ => handleGoOnline)
  | .goOffline _ payload => some (withLayout (readNothing payload) fun _ => handleGoOffline)
  | .lineRestart _ payload => some (withLayout (readNothing payload) fun _ => handleLineRestart)
  | .queryStatus _ payload => some (withLayout (readNothing payload) fun _ => handleQueryStatus)
  | .scanTick => none
  | .probeReply _ _ _ => none
  | .probeTimeout => none
  | .stationScan _ => none
  | .pierceTimeEnd _ => none
  | .evacuationLimitExpiry _ => none
  | .holdTimeEnd _ => none
  | .releaseTimeEnd _ => none
  | .suspendLimitExpiry _ => none
  | .receiverScan _ => none
  | .chamberScan => none
  | .inertTimeoutExpiry => none
  | .ventTimeoutExpiry => none
  | .protectionScan => none
  | .sampleScanWrite => none
  | .frameByteReceived _ => none

/-- R186: a command with a handler is a request taken by it. -/
theorem exec_handler {i : Instr} {h : State → State × Reply} (e : handlerOf i = some h) (s : State) :
    ∃ kind tag payload, requestOf i = some (kind, tag, payload) ∧ exec i s = takeRequest ⟨kind, tag, payload⟩ h s := by
  cases i <;> simp only [handlerOf, Option.some.injEq, reduceCtorEq] at e <;> subst e <;>
    exact ⟨_, _, _, rfl, rfl⟩

/-- R186: no owner's handling touches the line. -/
theorem handler_line {i : Instr} {h : State → State × Reply} (e : handlerOf i = some h) (s : State) :
    (h s).1.line = s.line := by
  cases i <;> simp only [handlerOf, Option.some.injEq, reduceCtorEq] at e <;> subst e <;>
    (refine withLayout_line _ _ _ fun a => ?_) <;> first
      | (refine onStation_line _ _ _ fun i => ?_; simp)
      | simp

/-- R186, R187: what a request taken in its turn does. -/
theorem exec_turn {i : Instr} {h : State → State × Reply} {kind tag : Byte} {payload : List Byte} {s : State}
    (e : handlerOf i = some h) (r : requestOf i = some (kind, tag, payload)) (ht : s.TurnOf ⟨kind, tag, payload⟩) :
    exec i s
      = .next ((h s.takeFromQueue).1.sends
          (replyFrame kind tag (h s.takeFromQueue).2.status (h s.takeFromQueue).2.body)) := by
  obtain ⟨a, b, c, h1, h2⟩ := exec_handler e s
  rw [r] at h1
  cases h1
  rw [h2, takeRequest_turn _ _ _ ht (handler_line e _)]

end Sys2Proof.Machine
end

