-- ==== Sys2Proof/Laws/PerInstr.lean ====
section
/-! SUPPORT. Laws/PerInstr.lean: the family RequestForm, one lemma for each command: the request that a well-formed command is
fits a frame (R184), and its kind names a request exactly when the command is no BAD_KIND (R186). -/

namespace Sys2Proof.Laws

/-- R184, R186: the form of the request that a command is, if it is one. -/
def RequestForm.Statement (i : Instr) : Prop :=
  ∀ (kind tag : Byte) (payload : List Byte), i.wf = true → requestOf i = some (kind, tag, payload) →
    payload.length ≤ Config.payloadMost ∧ (namesRequest kind = false ↔ i = .badKind kind tag payload)

/-- A command that is no request has no form to keep. -/
theorem requestForm_of_none {i : Instr} (h : requestOf i = none) : RequestForm.Statement i := by
  intro k t p _ e
  rw [h] at e
  cases e

/-- A command that is a request of a kind the map names keeps the form when its well-formedness is its payload's. -/
theorem requestForm_of_named {i : Instr} {kind tag : Byte} {payload : List Byte}
    (h : requestOf i = some (kind, tag, payload)) (hw : i.wf = decide (payload.length ≤ Config.payloadMost))
    (hn : namesRequest kind = true) : RequestForm.Statement i := by
  intro k t p w e
  rw [h] at e
  cases e
  refine ⟨of_decide_eq_true (hw.symm.trans w), ⟨fun f => absurd (hn.symm.trans f) (by decide), fun f => ?_⟩⟩
  subst f
  simp [Instr.wf, hn] at w

theorem RequestForm.powerOn : RequestForm.Statement .powerOn :=
  requestForm_of_none rfl

theorem RequestForm.frameReceived (kind tag : Byte) (payload : List Byte) (crc : BitVec 16) : RequestForm.Statement (.frameReceived kind tag payload crc) :=
  requestForm_of_none rfl

theorem RequestForm.frameGapTimeout : RequestForm.Statement .frameGapTimeout :=
  requestForm_of_none rfl

theorem RequestForm.transmitComplete : RequestForm.Statement .transmitComplete :=
  requestForm_of_none rfl

theorem RequestForm.badKind (kind tag : Byte) (payload : List Byte) : RequestForm.Statement (.badKind kind tag payload) := by
  intro k t p w e
  simp only [requestOf, Option.some.injEq, Prod.mk.injEq] at e
  obtain ⟨rfl, rfl, rfl⟩ := e
  simp only [Instr.wf, Bool.and_eq_true, Bool.not_eq_true', decide_eq_true_eq] at w
  exact ⟨w.2, by simp [w.1]⟩

theorem RequestForm.admitUnit (tag : Byte) (payload : List Byte) : RequestForm.Statement (.admitUnit tag payload) :=
  requestForm_of_named rfl rfl rfl

theorem RequestForm.withdrawUnit (tag : Byte) (payload : List Byte) : RequestForm.Statement (.withdrawUnit tag payload) :=
  requestForm_of_named rfl rfl rfl

theorem RequestForm.queryUnit (tag : Byte) (payload : List Byte) : RequestForm.Statement (.queryUnit tag payload) :=
  requestForm_of_named rfl rfl rfl

theorem RequestForm.takeClosed (tag : Byte) (payload : List Byte) : RequestForm.Statement (.takeClosed tag payload) :=
  requestForm_of_named rfl rfl rfl

theorem RequestForm.setClassEntry (tag : Byte) (payload : List Byte) : RequestForm.Statement (.setClassEntry tag payload) :=
  requestForm_of_named rfl rfl rfl

theorem RequestForm.suspendStation (tag : Byte) (payload : List Byte) : RequestForm.Statement (.suspendStation tag payload) :=
  requestForm_of_named rfl rfl rfl

theorem RequestForm.resumeStation (tag : Byte) (payload : List Byte) : RequestForm.Statement (.resumeStation tag payload) :=
  requestForm_of_named rfl rfl rfl

theorem RequestForm.abortStation (tag : Byte) (payload : List Byte) : RequestForm.Statement (.abortStation tag payload) :=
  requestForm_of_named rfl rfl rfl

theorem RequestForm.lockStation (tag : Byte) (payload : List Byte) : RequestForm.Statement (.lockStation tag payload) :=
  requestForm_of_named rfl rfl rfl

theorem RequestForm.unlockStation (tag : Byte) (payload : List Byte) : RequestForm.Statement (.unlockStation tag payload) :=
  requestForm_of_named rfl rfl rfl

theorem RequestForm.resetStation (tag : Byte) (payload : List Byte) : RequestForm.Statement (.resetStation tag payload) :=
  requestForm_of_named rfl rfl rfl

theorem RequestForm.setStationTiming (tag : Byte) (payload : List Byte) : RequestForm.Statement (.setStationTiming tag payload) :=
  requestForm_of_named rfl rfl rfl

theorem RequestForm.readTrace (tag : Byte) (payload : List Byte) : RequestForm.Statement (.readTrace tag payload) :=
  requestForm_of_named rfl rfl rfl

theorem RequestForm.beginSwap (tag : Byte) (payload : List Byte) : RequestForm.Statement (.beginSwap tag payload) :=
  requestForm_of_named rfl rfl rfl

theorem RequestForm.endSwap (tag : Byte) (payload : List Byte) : RequestForm.Statement (.endSwap tag payload) :=
  requestForm_of_named rfl rfl rfl

theorem RequestForm.queryReceiver (tag : Byte) (payload : List Byte) : RequestForm.Statement (.queryReceiver tag payload) :=
  requestForm_of_named rfl rfl rfl

theorem RequestForm.setFillLimit (tag : Byte) (payload : List Byte) : RequestForm.Statement (.setFillLimit tag payload) :=
  requestForm_of_named rfl rfl rfl

theorem RequestForm.stageChamberSettings (tag : Byte) (payload : List Byte) : RequestForm.Statement (.stageChamberSettings tag payload) :=
  requestForm_of_named rfl rfl rfl

theorem RequestForm.startChamber (tag : Byte) (payload : List Byte) : RequestForm.Statement (.startChamber tag payload) :=
  requestForm_of_named rfl rfl rfl

theorem RequestForm.stopChamber (tag : Byte) (payload : List Byte) : RequestForm.Statement (.stopChamber tag payload) :=
  requestForm_of_named rfl rfl rfl

theorem RequestForm.setChamberLimits (tag : Byte) (payload : List Byte) : RequestForm.Statement (.setChamberLimits tag payload) :=
  requestForm_of_named rfl rfl rfl

theorem RequestForm.readCharge (tag : Byte) (payload : List Byte) : RequestForm.Statement (.readCharge tag payload) :=
  requestForm_of_named rfl rfl rfl

theorem RequestForm.queryChamber (tag : Byte) (payload : List Byte) : RequestForm.Statement (.queryChamber tag payload) :=
  requestForm_of_named rfl rfl rfl

theorem RequestForm.setGasEntry (tag : Byte) (payload : List Byte) : RequestForm.Statement (.setGasEntry tag payload) :=
  requestForm_of_named rfl rfl rfl

theorem RequestForm.setArithmeticLimits (tag : Byte) (payload : List Byte) : RequestForm.Statement (.setArithmeticLimits tag payload) :=
  requestForm_of_named rfl rfl rfl

theorem RequestForm.queryArithmetic (tag : Byte) (payload : List Byte) : RequestForm.Statement (.queryArithmetic tag payload) :=
  requestForm_of_named rfl rfl rfl

theorem RequestForm.readShift (tag : Byte) (payload : List Byte) : RequestForm.Statement (.readShift tag payload) :=
  requestForm_of_named rfl rfl rfl

theorem RequestForm.closeShift (tag : Byte) (payload : List Byte) : RequestForm.Statement (.closeShift tag payload) :=
  requestForm_of_named rfl rfl rfl

theorem RequestForm.setProtectionLimits (tag : Byte) (payload : List Byte) : RequestForm.Statement (.setProtectionLimits tag payload) :=
  requestForm_of_named rfl rfl rfl

theorem RequestForm.emergencyTrip (tag : Byte) (payload : List Byte) : RequestForm.Statement (.emergencyTrip tag payload) :=
  requestForm_of_named rfl rfl rfl

theorem RequestForm.clearTrip (tag : Byte) (payload : List Byte) : RequestForm.Statement (.clearTrip tag payload) :=
  requestForm_of_named rfl rfl rfl

theorem RequestForm.queryProtection (tag : Byte) (payload : List Byte) : RequestForm.Statement (.queryProtection tag payload) :=
  requestForm_of_named rfl rfl rfl

theorem RequestForm.setScanDivisor (tag : Byte) (payload : List Byte) : RequestForm.Statement (.setScanDivisor tag payload) :=
  requestForm_of_named rfl rfl rfl

theorem RequestForm.setScanSlot (tag : Byte) (payload : List Byte) : RequestForm.Statement (.setScanSlot tag payload) :=
  requestForm_of_named rfl rfl rfl

theorem RequestForm.scannerReset (tag : Byte) (payload : List Byte) : RequestForm.Statement (.scannerReset tag payload) :=
  requestForm_of_named rfl rfl rfl

theorem RequestForm.bindSignal (tag : Byte) (payload : List Byte) : RequestForm.Statement (.bindSignal tag payload) :=
  requestForm_of_named rfl rfl rfl

theorem RequestForm.setSignalLimits (tag : Byte) (payload : List Byte) : RequestForm.Statement (.setSignalLimits tag payload) :=
  requestForm_of_named rfl rfl rfl

theorem RequestForm.queryImage (tag : Byte) (payload : List Byte) : RequestForm.Statement (.queryImage tag payload) :=
  requestForm_of_named rfl rfl rfl

theorem RequestForm.streamControl (tag : Byte) (payload : List Byte) : RequestForm.Statement (.streamControl tag payload) :=
  requestForm_of_named rfl rfl rfl

theorem RequestForm.drainSamples (tag : Byte) (payload : List Byte) : RequestForm.Statement (.drainSamples tag payload) :=
  requestForm_of_named rfl rfl rfl

theorem RequestForm.setNoticeEnables (tag : Byte) (payload : List Byte) : RequestForm.Statement (.setNoticeEnables tag payload) :=
  requestForm_of_named rfl rfl rfl

theorem RequestForm.goOnline (tag : Byte) (payload : List Byte) : RequestForm.Statement (.goOnline tag payload) :=
  requestForm_of_named rfl rfl rfl

theorem RequestForm.goOffline (tag : Byte) (payload : List Byte) : RequestForm.Statement (.goOffline tag payload) :=
  requestForm_of_named rfl rfl rfl

theorem RequestForm.lineRestart (tag : Byte) (payload : List Byte) : RequestForm.Statement (.lineRestart tag payload) :=
  requestForm_of_named rfl rfl rfl

theorem RequestForm.queryStatus (tag : Byte) (payload : List Byte) : RequestForm.Statement (.queryStatus tag payload) :=
  requestForm_of_named rfl rfl rfl

theorem RequestForm.scanTick : RequestForm.Statement .scanTick :=
  requestForm_of_none rfl

theorem RequestForm.probeReply (address : Byte) (values : List (BitVec 32)) (crc : BitVec 16) :
    RequestForm.Statement (.probeReply address values crc) :=
  requestForm_of_none rfl

theorem RequestForm.probeTimeout : RequestForm.Statement .probeTimeout :=
  requestForm_of_none rfl

theorem RequestForm.stationScan (i : StationNo) : RequestForm.Statement (.stationScan i) :=
  requestForm_of_none rfl

theorem RequestForm.pierceTimeEnd (i : StationNo) : RequestForm.Statement (.pierceTimeEnd i) :=
  requestForm_of_none rfl

theorem RequestForm.evacuationLimitExpiry (i : StationNo) : RequestForm.Statement (.evacuationLimitExpiry i) :=
  requestForm_of_none rfl

theorem RequestForm.holdTimeEnd (i : StationNo) : RequestForm.Statement (.holdTimeEnd i) :=
  requestForm_of_none rfl

theorem RequestForm.releaseTimeEnd (i : StationNo) : RequestForm.Statement (.releaseTimeEnd i) :=
  requestForm_of_none rfl

theorem RequestForm.suspendLimitExpiry (i : StationNo) : RequestForm.Statement (.suspendLimitExpiry i) :=
  requestForm_of_none rfl

theorem RequestForm.receiverScan (f : Family) : RequestForm.Statement (.receiverScan f) :=
  requestForm_of_none rfl

theorem RequestForm.chamberScan : RequestForm.Statement .chamberScan :=
  requestForm_of_none rfl

theorem RequestForm.inertTimeoutExpiry : RequestForm.Statement .inertTimeoutExpiry :=
  requestForm_of_none rfl

theorem RequestForm.ventTimeoutExpiry : RequestForm.Statement .ventTimeoutExpiry :=
  requestForm_of_none rfl

theorem RequestForm.protectionScan : RequestForm.Statement .protectionScan :=
  requestForm_of_none rfl

theorem RequestForm.sampleScanWrite : RequestForm.Statement .sampleScanWrite :=
  requestForm_of_none rfl

theorem RequestForm.frameByteReceived (b : Byte) : RequestForm.Statement (.frameByteReceived b) :=
  requestForm_of_none rfl

end Sys2Proof.Laws
end

