-- ==== Sys2Proof/Tests/Slice0.lean ====
section
/-! SUPPORT. Tests/Slice0.lean: what WellFormed refuses, the manual's worked examples, small tests of one step each, and for
every statement with hypotheses a state and operands that meet them. -/

set_option Elab.async false

namespace Sys2Proof.Tests

open Sys2Proof Sys2Proof.Machine

/-! ## Helpers -/

/-- The command answers a next state with a property. -/
def gives (a : Answer) (p : State → Bool) : Bool :=
  match a with
  | .next t => p t
  | _ => false

/-- The part in RUNNING. -/
def running : State := { State.reset with link := { Link.reset with mode := .running } }

/-- The part in TRIPPED with the cause LOAD_CONC. -/
def tripped : State :=
  { State.reset with
    link := { Link.reset with mode := .tripped }
    protection := { Protection.reset with causes := { TripCauses.empty with loadConc := true } }
    chamber := { Chamber.reset with standing := .halted } }

/-- Station 1 in a state, with unit 7 of the F family. -/
def withStation (x : StationState) (s : State) : State :=
  s.setStation 1 { s.station 1 with state := x, unit := some 7, family := some .fluorinated }

/-- Station 1 with its timers standing at `n` ticks. -/
def aged (n : Nat) (s : State) : State :=
  s.setStation 1 { s.station 1 with phaseTimer := n, evacElapsed := n, suspElapsed := n }

/-- Station 1 SUSPENDED with a cause set. -/
def suspended (c : Causes) (s : State) : State :=
  s.setStation 1 { s.station 1 with state := .suspended, unit := some 7, family := some .fluorinated, causes := c }

/-- A unit record with a tag and a state. -/
def unitIn (tag : Nat) (x : UnitState) : UnitRecord :=
  { tag := tag, admission := 1, cls := 3, nameplate := some 120, foamWeight := some 3000, state := x, station := none
    degas := none, charge := none, share := none, anomalies := [], truncated := false, severe := false, verdict := none }

/-- The Unit Table with records. -/
def withUnits (us : List UnitRecord) (s : State) : State := s.setTracker { s.tracker with units := us }

/-- The F receiver IN_USE with a cylinder of 30,000 g tare. -/
def cylinderF (s : State) : State := { s with receiverF := { s.receiverF with standing := .inUse ⟨5, 30000, 0⟩ } }

/-- Class 3 defined: circuit gas 2, foam gas 0, default weight 3,200 g. -/
def classed (s : State) : State :=
  s.setTracker { s.tracker with classes := s.tracker.classes.set 3 (some ⟨some 2, some 0, 3200, 900, 60000⟩) }

/-- A charge in a phase. -/
def chargeIn (p : Phase) : Charge :=
  { number := 9, phase := p, units := [], index := 0, waitElapsed := 0, mass := 0, residue := 0, baselineUsed := 40
    scansIntegrated := 0, heldScans := 0, clampedScans := 0, flags := .none, tailSum := 0, tailCount := 0
    tailClean := true, vented := false }

/-- The chamber in a charge. -/
def charging (c : Charge) (s : State) : State := s.setChamber { s.chamber with standing := .charging c }

/-- The chamber in a charge of H mode, chamber gas 5 (cyclopentane). -/
def chargingH (c : Charge) (s : State) : State :=
  s.setChamber { s.chamber with
    standing := .charging c, inForce := { s.chamber.inForce with mode := .hydrocarbon, gas := 5 } }

/-- A published scan in which every role reads the same. -/
def scanOf (x : RoleReading) : Scan :=
  { sequence := 1, elapsed := 1000, moment := 5000, cells := Vector.replicate 48 ⟨0, .fresh⟩, roles := Vector.replicate 17 x }

/-- A scan with one role reading otherwise. -/
def scanWith (r : RoleNo) (y : RoleReading) (x : Scan) : Scan := { x with roles := x.roles.set r y }

/-- A scan that waits for a consumer. -/
def toTake (c : Consumer) (x : Scan) (s : State) : State := { s with toTake := [(c, x)] }

/-! ## What WellFormed refuses -/

theorem wf_refuses_long_frame : (Instr.frameReceived 0x3F 1 (List.replicate 1025 0) 0).wf = false := by decide +kernel
theorem wf_refuses_named_badKind : (Instr.badKind 0x3F 1 []).wf = false := by decide +kernel
theorem wf_refuses_long_badKind : (Instr.badKind 0xEE 1 (List.replicate 1025 0)).wf = false := by decide +kernel
theorem wf_refuses_long_reply : (Instr.probeReply 3 (List.replicate 256 0) 0).wf = false := by decide +kernel
theorem wf_refuses_long_request : (Instr.setClassEntry 1 (List.replicate 1025 0)).wf = false := by decide +kernel
theorem wf_accepts_request : (Instr.queryStatus 1 []).wf = true := by decide +kernel

/-! ## The manual's worked examples -/

/-- R185: the CRC of the nine bytes of the text 123456789 is 29B1h. -/
theorem test_crc : crc16 [0x31, 0x32, 0x33, 0x34, 0x35, 0x36, 0x37, 0x38, 0x39] = 0x29B1#16 := by decide +kernel

/-- 4.2.1: the four rows. -/
theorem test_window_kept :
    (ChamberSettings.mk .fluorinated 0 6000 0 200 5600 4).legalised = ⟨.fluorinated, 0, 6000, 0, 200, 5600, 4⟩ := by decide +kernel
theorem test_window_end_limited :
    (ChamberSettings.mk .fluorinated 0 4000 0 100 5600 4).legalised = ⟨.fluorinated, 0, 4000, 0, 96, 3968, 4⟩ := by decide +kernel
theorem test_window_moved :
    (ChamberSettings.mk .fluorinated 0 300 0 250 260 4).legalised = ⟨.fluorinated, 0, 300, 0, 200, 264, 4⟩ := by decide +kernel
theorem test_window_zero :
    (ChamberSettings.mk .fluorinated 0 1000 2 0 0 4).legalised = ⟨.fluorinated, 0, 1000, 2, 16, 80, 4⟩ := by decide +kernel

/-- 6.1.1 to 6.1.3, 6.4.1 and 1.8.4. -/
theorem test_shares_tie : shares 1003003 [3000, 3000, 4000] = [300901, 300901, 401201] := by decide +kernel
theorem test_shares_no_weight_for_one : shares 10 [3, 3, 3, 0] = [4, 3, 3, 0] := by decide +kernel
theorem test_shares_equal : shares 1000007 [0, 0, 0] = [333336, 333336, 333335] := by decide +kernel
theorem test_shares_judged : shares 700001 [3600, 4000, 5200, 0] = [196875, 218750, 284376, 0] := by decide +kernel
theorem test_shares_charge_13 : shares 735008 [4000, 3500, 3000] = [280003, 245003, 210002] := by decide +kernel

/-! ### One published scan, one read, one request -/

/-- 5.7.1, the third and the sixth scan: a held raw flow of 23,500 is clamped, and an E of 2,000 counts two intervals. -/
def station571 (acc : Nat) : State :=
  let s := cylinderF (withStation .evacuating State.reset)
  s.setStation 1 { s.station 1 with accumulator := acc, lastSeen := some true, latestPressure := 900 }

/-- A scan for station 1: flow, pressure 400 mbar, appliance present. -/
def scan571 (e : Nat) (flow : RoleReading) : Scan :=
  { scanWith (roleStationPresence 1) ⟨.valid, 1⟩ (scanWith (roleStationFlow 1) flow (scanOf ⟨.valid, 400⟩)) with elapsed := e }

theorem test_stationScan_clamped :
    gives (exec (.stationScan 1) (toTake (.station 1) (scan571 1000 ⟨.held, 23500⟩) (station571 12081200000)))
      (fun t => (t.station 1).accumulator = 14081200000 && (t.station 1).latestPressure = 400) = true := by decide +kernel
theorem test_stationScan_overrun :
    gives (exec (.stationScan 1) (toTake (.station 1) (scan571 2000 ⟨.valid, 812⟩) (station571 14081200000)))
      (fun t => (t.station 1).accumulator = 14243600000 && t.toTake.isEmpty) = true := by decide +kernel

/-- 5.7.2, the second and the fifth scan: the residue carried. -/
def chamber572 (mass residue : Nat) : State :=
  charging { chargeIn .window with mass := mass, residue := residue, index := 300, number := 61 } State.reset

/-- A scan for the chamber: flow and concentration. -/
def scan572 (flow conc : RoleReading) : Scan :=
  scanWith roleChamberConc conc (scanWith roleChamberFlow flow (scanOf ⟨.valid, 0⟩))

theorem test_chamberScan_carries_residue :
    gives (exec .chamberScan (toTake .chamber (scan572 ⟨.valid, 333⟩ ⟨.held, 1277⟩) (chamber572 23537165 94000)))
      (fun t => match t.chamber.standing with
        | .charging c => c.mass = 47074331 && c.residue = 88000 && c.heldScans = 1 && c.index = 301
        | _ => false) = true := by decide +kernel
theorem test_chamberScan_small_increment :
    gives (exec .chamberScan (toTake .chamber (scan572 ⟨.valid, 120⟩ ⟨.valid, 41⟩) (chamber572 47074331 88000)))
      (fun t => match t.chamber.standing with
        | .charging c => c.mass = 47081188 && c.residue = 68000 && c.clampedScans = 0
        | _ => false) = true := by decide +kernel

/-- 6.4.1: the classes and the four units judged. -/
def judged641 (u : UnitRecord) : Verdict :=
  let t := State.reset.tracker
  let c := ((t.classes.set 2 (some ⟨some 2, some 0, 4000, 900, 60000⟩)).set 14 (some ⟨none, some 0, 5000, 900, 50000⟩)).set
    20 (some ⟨some 1, none, 0, 850, 60000⟩)
  State.verdictOf u (State.reset.setTracker { t with classes := c })

/-- A degas result with a recovered mass. -/
def recovered (mg : Nat) : Option DegasResult := some ⟨mg, 25, some 2, 0, 3000, 0⟩

theorem test_verdict_9101 :
    judged641 { unitIn 9101 .inCharge with
      cls := 2, nameplate := some 140, foamWeight := some 3600, degas := recovered 131950, share := some 196875 }
      = .lowFoamYield := by decide +kernel
theorem test_verdict_9102 :
    judged641 { unitIn 9102 .inCharge with
      cls := 2, nameplate := some 150, foamWeight := none, degas := recovered 0, share := some 218750 }
      = .shortRecovery := by decide +kernel
theorem test_verdict_9103 :
    judged641 { unitIn 9103 .inCharge with cls := 14, nameplate := none, foamWeight := some 5200, share := some 284376 }
      = .accepted := by decide +kernel
theorem test_verdict_9104 :
    judged641 { unitIn 9104 .inCharge with
      cls := 20, nameplate := some 90, foamWeight := none, degas := recovered 80100, share := some 0 }
      = .accepted := by decide +kernel

/-- 8.9: the slots after step 8, and after step 11. -/
def slots89 : Vector Slot 12 :=
  let on (count first granted : Nat) : Slot := ⟨true, 3, 0, count, 0, .fresh, some ⟨first, granted⟩⟩
  (((((State.reset.scanner.slots.set 0 (on 8 0 8)).set 1 (on 4 8 8)).set 5 (on 8 16 6)).set 2 (on 8 22 8)).set 3
    (on 8 30 8)).set 4 (on 8 38 8)

/-- 8.9: a scanner with those slots. -/
def scanner89 (slots : Vector Slot 12) : State := State.reset.setScanner { State.reset.scanner with slots := slots }

theorem test_setScanSlot_step9 :
    gives (exec (.setScanSlot 1 [6, 1, 11, 0, 4]) (scanner89 slots89))
      (fun t => t.scanner.slots[(6 : Nat)] = ⟨true, 11, 0, 4, 0, .truncated, some ⟨46, 2⟩⟩
        && t.scanner.settlingRemaining = 50) = true := by decide +kernel
theorem test_scannerReset_reallocates :
    gives (exec (.scannerReset 1 [])
        (scanner89 (((slots89.set 6 ⟨true, 11, 0, 4, 0, .truncated, some ⟨46, 2⟩⟩).set 7 ⟨true, 12, 0, 2, 0, .truncated, none⟩).set 2
          ⟨false, 5, 0, 8, 0, .fresh, some ⟨22, 8⟩⟩)))
      (fun t => (t.scanner.slots.toList.map (·.allocation)).take 8
          = [some ⟨0, 8⟩, some ⟨8, 4⟩, none, some ⟨12, 8⟩, some ⟨20, 8⟩, some ⟨28, 8⟩, some ⟨36, 4⟩, some ⟨40, 2⟩]) = true := by
  decide +kernel

/-- 8.5.1, scans 906 and 907: the hold count at and above the limit of 3. -/
theorem test_role_held_at_limit :
    (RoleRecord.judge 3 (Vector.replicate 48 ⟨0, .heldFromMiss⟩) ⟨some 17, true, 220, 2⟩)
      = (⟨.held, 220⟩, ⟨some 17, true, 220, 3⟩) := by decide +kernel
theorem test_role_lost_above_limit :
    (RoleRecord.judge 3 (Vector.replicate 48 ⟨0, .heldFromMiss⟩) ⟨some 17, true, 220, 3⟩)
      = (⟨.lost, 0⟩, ⟨some 17, true, 220, 4⟩) := by decide +kernel

/-- 11.3: the words of some requests spell their commands. -/
theorem test_commandOf :
    commandOf 0x01 5 [1] = .admitUnit 5 [1] ∧ commandOf 0x0E 5 [] = .setStationTiming 5 []
      ∧ commandOf 0x13 5 [] = .setFillLimit 5 [] ∧ commandOf 0x18 5 [] = .stageChamberSettings 5 []
      ∧ commandOf 0x25 5 [] = .closeShift 5 [] ∧ commandOf 0x2A 5 [] = .clearTrip 5 []
      ∧ commandOf 0x33 5 [] = .bindSignal 5 [] ∧ commandOf 0x39 5 [64] = .drainSamples 5 [64]
      ∧ commandOf 0x3F 5 [] = .queryStatus 5 [] ∧ commandOf 0x40 5 [] = .badKind 0x40 5 []
      ∧ commandOf 0x9F 5 [] = .badKind 0x9F 5 [] := by decide +kernel

/-- The opcode table gives its rows no bits. -/
theorem test_decodeTableWord : decodeTableWord 8 0x3F = none := by decide +kernel

/-! ## States and operands that meet the statements' hypotheses -/

/-! ### The part as a machine and its invariants -/

theorem witness_StepTakesTheFrontCommand :
    ({ State.reset with pending := [.powerOn, .scanTick] } : State).pending = .powerOn :: [.scanTick] := rfl

/-- A line that waits for inerting, sends a frame and has station 1 in PIERCING. -/
def busy : State :=
  let s := chargingH (chargeIn .inertWait) (withStation .piercing running)
  s.setLink { s.link with sending := some ⟨⟨0xC0#8, 0, []⟩, 0⟩ }

theorem witness_IdleRaisesAnEventOrPassesATick_tick :
    busy.pending = [] ∧ busy.readyEvents = [] ∧ busy.chamber.standing = .charging (chargeIn .inertWait)
      ∧ busy.link.sending = some ⟨⟨0xC0#8, 0, []⟩, 0⟩ := by decide +kernel
theorem witness_IdleRaisesAnEventOrPassesATick_event :
    let s := State.reset.setScanner { State.reset.scanner with countdown := 0 }
    s.pending = [] ∧ s.readyEvents ≠ [] := by decide +kernel
theorem witness_IdleRaisesAnEventOrPassesATick_early :
    isDated (.pierceTimeEnd 1) ∧ busy.dateOf (.pierceTimeEnd 1) = some 30000 ∧ busy.mayPass 30000 = false :=
  ⟨.inr ⟨1, by simp⟩, by decide +kernel, by decide +kernel⟩
/-- The scan tick of a station's 30,000 ticks comes first. -/
theorem test_pierceTimeEnd_early :
    gives (exec (.pierceTimeEnd 1) busy) (fun t => t.now = 0 && (t.station 1).state = .piercing) = true := by decide +kernel

/-- A state of every invariant, with a command that changes it: unit 7 at station 1, unit 8 CLOSED. -/
def tripping : State :=
  let u : UnitRecord := { unitIn 7 .degassing with station := some 1 }
  let s := withStation .evacuating (withUnits [u, unitIn 8 .closed] running)
  { s with
    tracker := { s.tracker with closedList := [8] }, pending := [.emergencyTrip 1 []], pins := s.driven }

theorem witness_StepKeeps :
    tripping.Safe ∧ gives (step tripping) (fun t => t.link.mode = .tripped) = true := by
  refine ⟨⟨?_, ?_, ?_, ?_, ?_, ?_, ?_, ?_, ?_, ?_, ?_⟩, ?_⟩ <;> decide +kernel

/-! ### Requests, frames and the transmit line -/

/-- A published scan that the chamber has taken and Protection has not. -/
def partlyTaken : State := { running with toTake := [(.protection, scanOf ⟨.valid, 1⟩)] }

theorem witness_RequestOutOfTurnWaits_restart :
    requestOf (.lineRestart 1 []) = some (0x3E, 1, []) ∧ ¬ partlyTaken.TurnOf ⟨0x3E, 1, []⟩
      ∧ partlyTaken.TurnOf ⟨0x3F, 1, []⟩ ∧ partlyTaken.link.requests.length < 4 := by decide +kernel
/-- R183: LINE_RESTART waits until every consumer has acted on the scan. -/
theorem test_lineRestart_waits :
    gives (exec (.lineRestart 1 []) partlyTaken)
      (fun t => t.link.mode = .running && t.link.requests = [⟨0x3E, 1, []⟩] && t.readyRequest.isEmpty) = true := by
  decide +kernel

/-- A line with requests waiting. -/
def queued (n : Nat) : State :=
  State.reset.setLink { Link.reset with requests := List.replicate n ⟨0x3D#8, 0#8, []⟩ }

theorem witness_RequestOutOfTurnWaits :
    requestOf (.queryStatus 1 []) = some (0x3F, 1, []) ∧ ¬ (queued 3).TurnOf ⟨0x3F, 1, []⟩
      ∧ (queued 3).link.requests.length < 4 ∧ ¬ (queued 4).TurnOf ⟨0x3F, 1, []⟩ ∧ 4 ≤ (queued 4).link.requests.length := by
  decide +kernel
theorem witness_BadRequestsAreAnswered :
    (Instr.queryUnit 1 [1, 2, 3]).wf = true ∧ requestOf (.queryUnit 1 [1, 2, 3]) = some (0x03, 1, [1, 2, 3])
      ∧ requestLength 0x03 = some 4 ∧ [1#8, 2, 3].length ≠ 4 ∧ State.reset.TurnOf ⟨0x03, 1, [1, 2, 3]⟩
      ∧ namesRequest 0x40 = false ∧ State.reset.TurnOf ⟨0x40, 1, []⟩ ∧ 0x80 ≤ (0x80#8).toNat := by decide +kernel
theorem witness_RefusalChangesNothing :
    (Instr.lockStation 1 [4]).wf = true ∧ requestOf (.lockStation 1 [4]) = some (0x0B, 1, [4]) ∧ namesRequest 0x0B = true
      ∧ State.reset.TurnOf ⟨0x0B, 1, [4]⟩ ∧ Status.outOfRange.refuses = true := by decide +kernel
theorem witness_RequestsAndCommandsAgree :
    (Instr.drainSamples 1 [64]).wf = true ∧ requestOf (.drainSamples 1 [64]) = some (0x39, 1, [64]) := by decide +kernel
theorem witness_FrameReceivedQueuesTheRequest :
    (List.replicate 1024 (0 : Byte)).length ≤ 1024 ∧ (queued 3).link.requests.length < 4
      ∧ 4 ≤ (queued 4).link.requests.length ∧ (0#16 : BitVec 16) ≠ crc16 (covered 0x3F 1 []) := by decide +kernel
theorem test_frameReceived :
    gives (exec (.frameReceived 0x3F 1 [] (crc16 (covered 0x3F 1 []))) (queued 3))
      (fun t => t.link.requests.length = 4 && t.link.rx = .waiting && t.link.flags = .clear) = true := by decide +kernel
theorem witness_BytesMakeTheFrame :
    (List.replicate 1024 (0 : Byte)).length ≤ 1024 ∧ State.reset.link.rx = .waiting := by decide +kernel

/-- The frame receiver inside a frame. -/
def inside (received : List Byte) (gap : Nat) : State := State.reset.setRx (.inside received gap)

theorem witness_FrameBytesAreExamined :
    State.reset.link.rx = .waiting ∧ (inside [6] 51).link.rx = .inside [6] 51 ∧ (inside [] 50).link.rx = .inside [] 50
      ∧ (inside [1] 50).link.rx = .inside [1] 50 ∧ 1024 < leValue ([1#8] ++ [4#8])
      ∧ leValue (([0#8] ++ [4#8]).take 2) ≤ 1024 ∧ [0#8].length + 1 < leValue (([0#8] ++ [4#8]).take 2) + 6 := by
  decide +kernel
theorem witness_FrameBytesAreExamined_gap :
    (inside [6] 20).link.rx = .inside [6] 20 ∧ (inside [6] 20).mayPass (51 - 20) = true := by decide +kernel
theorem test_frameByteReceived_start :
    gives (exec (.frameByteReceived 0xA5) State.reset) (fun t => t.link.rx = .inside [] 0) = true := by decide +kernel
theorem test_frameByteReceived_after_gap :
    gives (exec (.frameByteReceived 0xA5) (inside [6] 51))
      (fun t => t.link.rx = .inside [] 0 && t.link.flags.frameError) = true := by decide +kernel
theorem test_frameGapTimeout :
    gives (exec .frameGapTimeout (inside [6] 20))
      (fun t => t.link.rx = .waiting && t.now = 31 && t.link.flags.frameError) = true := by decide +kernel
theorem witness_TransmitCompleteChoosesTheNextFrame :
    busy.link.sending = some ⟨⟨0xC0#8, 0, []⟩, 0⟩ ∧ busy.mayPass ((TxFrame.mk 0xC0#8 0 []).ticks - 0) = true := by
  decide +kernel
/-- The notice of R34, whose enable is bit 3. -/
theorem witness_TransmitCompleteChoosesTheNextFrame_raise :
    busy.link.enables.getLsbD (Notice.strayUnit 0 .idle).place = true ∧ busy.link.notices.length < 32
      ∧ (busy.setLink { busy.link with enables := 0x1FF7#13 }).link.enables.getLsbD (Notice.strayUnit 0 .idle).place = false
      ∧ 32 ≤ (busy.setLink { busy.link with notices := List.replicate 32 (.strayUnit 0 .idle) }).link.notices.length := by
  decide +kernel
theorem test_raise_full :
    ((busy.setLink { busy.link with notices := List.replicate 32 (.strayUnit 0 .idle) }).raise
      (.strayUnit 1 .idle)).link.flags.noticeLost = true := by decide +kernel
/-- R188: 7 bytes of 10 bits at 115,200 bit/s take 607.6 µs, the seventh tick. -/
theorem test_transmitComplete :
    gives (exec .transmitComplete busy) (fun t => t.link.sending = none && t.now = 7) = true := by decide +kernel

/-! ### The line modes -/

theorem witness_GoOfflineNeedsARestingLine :
    running.TurnOf ⟨0x3D#8, 1, []⟩ ∧ running.link.mode = .running ∧ (∀ u ∈ running.tracker.units, u.state = .closed)
      ∧ running.chamber.standing = .stopped
      ∧ (∀ i, (running.station i).state = .idle ∨ (running.station i).state = .faulted ∨ (running.station i).state = .locked)
      ∧ tripped.TurnOf ⟨0x3D#8, 1, []⟩ ∧ tripped.link.mode = .tripped ∧ State.reset.TurnOf ⟨0x3D#8, 1, []⟩
      ∧ State.reset.link.mode = .offline := by decide +kernel
theorem witness_GoOfflineNeedsARestingLine_work :
    (∃ u ∈ (withUnits [unitIn 7 .degassed] running).tracker.units, u.state ≠ .closed)
      ∧ (charging (chargeIn .load) running).chamber.standing ≠ .stopped
      ∧ ∃ i, ((withStation .unloading running).station i).state ≠ .idle
          ∧ ((withStation .unloading running).station i).state ≠ .faulted
          ∧ ((withStation .unloading running).station i).state ≠ .locked := by
  refine ⟨by decide +kernel, by decide +kernel, 1, by decide +kernel⟩

/-- Every role bound, and VALID at the latest published scan; station 2 LOCKED with its roles unbound. -/
def ready : State :=
  let s := State.reset.setStation 2 { State.reset.station 2 with state := .locked }
  let bound : RoleRecord := ⟨some 4, true, 1, 0⟩
  s.setScanner { s.scanner with
    roles := (((Vector.replicate 17 bound).set 2 (.afresh none)).set 6 (.afresh none)).set 10 (.afresh none)
    published := some (scanOf ⟨.valid, 1⟩) }

theorem witness_GoOnlineStartsAReadyLine :
    ready.TurnOf ⟨0x3C#8, 1, []⟩ ∧ ready.link.mode = .offline ∧ ready.protection.causes.requestedTrip = false
      ∧ (∀ r : RoleNo, 12 ≤ r.val → (ready.scanner.roles[r]).binding ≠ none ∧ (ready.latestReading r).condition = .valid)
      ∧ (∀ (i : StationNo) (r : RoleNo), (ready.station i).state ≠ .locked → r.val < 12 → r.val % 4 = i.val →
          (ready.scanner.roles[r]).binding ≠ none ∧ (ready.latestReading r).condition = .valid)
      ∧ ready.tracker.degasQueue = [] := by decide +kernel
theorem witness_GoOnlineStartsAReadyLine_refused :
    tripped.TurnOf ⟨0x3C#8, 1, []⟩ ∧ tripped.link.mode = .tripped ∧ State.reset.TurnOf ⟨0x3C#8, 1, []⟩
      ∧ State.reset.unboundRoles.any id = true ∧ ready.unboundRoles.any id = false
      ∧ (ready.setScanner { ready.scanner with published := none }).unreadyRoles.any id = true := by decide +kernel
theorem test_goOnline :
    gives (exec (.goOnline 1 []) ready) (fun t => t.link.mode = .running
      && t.link.sending = some ⟨⟨0xBC#8, 1, [0x00#8]⟩, 0⟩) = true := by decide +kernel
/-- R181: the unbound required roles of a line with station 2 LOCKED and every role unbound. -/
theorem test_goOnline_missing :
    gives (exec (.goOnline 1 []) (ready.setScanner { ready.scanner with roles := Vector.replicate 17 (.afresh none) }))
      (fun t => t.link.sending = some ⟨⟨0xBC#8, 1, [0x0B#8, 0xBB#8, 0xFB#8, 0x01#8]⟩, 0⟩) = true := by decide +kernel
theorem witness_LineRestartClearsTheWork :
    busy.TurnOf ⟨0x3E#8, 1, []⟩ ∧ busy.link.notices.length ≤ 28 := by decide +kernel
theorem test_lineRestart :
    gives (exec (.lineRestart 1 []) (withUnits [unitIn 7 .degassing, unitIn 8 .closed] busy))
      (fun t => t.link.mode = .offline && t.shift.abandoned = 1 && t.tracker.units = [unitIn 8 .closed]
        && (t.station 1).state = .idle && t.chamber.standing = .stopped) = true := by decide +kernel
theorem witness_QueryStatusReportsAndClears : busy.TurnOf ⟨0x3F#8, 1, []⟩ := by decide +kernel
theorem test_queryStatus :
    gives (exec (.queryStatus 1 []) (running.setFlag .scanOverrun)) (fun t => t.link.flags = .clear
      && (t.link.sending.map fun x => (x.frame.payload.length, x.frame.payload.getLast?)) = some (77, some 0x04#8)) = true := by
  decide +kernel

/-! ### Settings, tables and queries -/

/-- Station settings at the ends of their ranges. -/
def timingLow : StationTiming := ⟨5, 501, 500, 10, 5, 1, 10, 1⟩
/-- Station settings with a vacuum target that is not below the empty-circuit threshold. -/
def timingWrong : StationTiming := ⟨100, 500, 500, 3600, 600, 500, 3600, 255⟩

theorem witness_SettingsAreStored :
    State.reset.link.mode = .offline ∧ State.reset.TurnOf ⟨0x0E#8, 1, timingLow.bytes⟩
      ∧ State.reset.TurnOf ⟨0x0E#8, 1, timingWrong.bytes⟩
      ∧ State.reset.TurnOf ⟨0x13#8, 1, leBytes 1 (familyCode .hydrocarbon) ++ leBytes 4 100000⟩
      ∧ State.reset.TurnOf ⟨0x13#8, 1, leBytes 1 (familyCode .hydrocarbon) ++ leBytes 4 100001⟩
      ∧ State.reset.TurnOf ⟨0x1B#8, 1, (ChamberLimits.mk 150 1200 10000 3600).bytes⟩
      ∧ State.reset.TurnOf ⟨0x1B#8, 1, (ChamberLimits.mk 9 10 10 10).bytes⟩
      ∧ State.reset.TurnOf ⟨0x21#8, 1, leBytes 2 200 ++ leBytes 2 10000⟩
      ∧ State.reset.TurnOf ⟨0x21#8, 1, leBytes 2 201 ++ leBytes 2 10000⟩ := by decide +kernel
theorem witness_SettingsAreStored_more :
    State.reset.TurnOf ⟨0x28#8, 1, (ProtectionLimits.mk 50 210 50 600).bytes⟩
      ∧ State.reset.TurnOf ⟨0x28#8, 1, (ProtectionLimits.mk 5 20 6 5).bytes⟩
      ∧ State.reset.TurnOf ⟨0x34#8, 1, leBytes 1 255 ++ leBytes 2 1000⟩
      ∧ State.reset.TurnOf ⟨0x34#8, 1, leBytes 1 0 ++ leBytes 2 0⟩
      ∧ tripped.TurnOf ⟨0x3B#8, 1, leBytes 2 (0x1FFF#13).toNat⟩ := by decide +kernel
theorem test_setStationTiming :
    gives (exec (.setStationTiming 1 timingLow.bytes) State.reset) (fun t => t.timing = timingLow) = true
      ∧ gives (exec (.setStationTiming 1 timingWrong.bytes) State.reset) (fun t => t.timing = .reset) = true := by
  decide +kernel
theorem test_setFillLimit :
    gives (exec (.setFillLimit 1 [1, 0xA0, 0x86, 0x01, 0]) State.reset)
      (fun t => t.receiverH.fillLimit = 100000 && t.receiverF.fillLimit = 45000) = true := by decide +kernel
theorem test_setNoticeEnables :
    gives (exec (.setNoticeEnables 1 [0xFF, 0x0F]) tripped) (fun t => t.link.enables = 0x0FFF#13) = true
      ∧ gives (exec (.setNoticeEnables 1 [0xFF, 0x2F]) tripped) (fun t => t.link.enables = 0x1FFF#13) = true := by
  decide +kernel
theorem witness_ConfigurationNeedsOffline :
    (Instr.scannerReset 1 []).wf = true ∧ requestOf (.scannerReset 1 []) = some (0x32, 1, [])
      ∧ requestLength 0x32 = some ([] : List Byte).length ∧ running.TurnOf ⟨0x32, 1, []⟩ ∧ running.link.mode ≠ .offline
      ∧ (Instr.setFillLimit 1 [1, 0, 0, 0, 0]).wf = true
      ∧ requestOf (.setFillLimit 1 [1, 0, 0, 0, 0]) = some (0x13, 1, [1, 0, 0, 0, 0])
      ∧ requestLength 0x13 = some [1#8, 0, 0, 0, 0].length ∧ field [1#8, 0, 0, 0, 0] 0 1 < 2
      ∧ (readClassBlock ([3#8, 0] ++ List.replicate 14 0)).isSome = true
      ∧ (readGasBlock ([3#8, 0] ++ List.replicate 23 0)).isSome = true ∧ (readBinding [16, 1, 99]).isSome = true := by
  decide +kernel

/-- A gas entry at the ends of its ranges. -/
def gasEdge : GasEntry := ⟨List.replicate 16 0x7E#8, .hydrocarbon, 9999, some 60000⟩

theorem witness_TableEntriesAreStored :
    State.reset.link.mode = .offline
      ∧ State.reset.TurnOf ⟨0x05#8, 1, leBytes 1 31 ++ [0x01#8] ++ optional 1 (some 2) ++ optional 1 none ++ leBytes 2 20000
          ++ optional 2 none ++ optional 4 (some 200000)⟩
      ∧ State.reset.gases[(2 : GasIndex)] ≠ none
      ∧ State.reset.TurnOf ⟨0x05#8, 1, leBytes 1 31 ++ [0x00#8] ++ List.replicate 14 0xFF#8⟩
      ∧ State.reset.TurnOf ⟨0x20#8, 1, leBytes 1 7 ++ [0x01#8] ++ gasEdge.name ++ leBytes 1 (familyCode gasEdge.family)
          ++ leBytes 2 gasEdge.density ++ indicator gasEdge.lfl.isSome ++ optional 2 gasEdge.lfl⟩
      ∧ gasEdge.name.length = 16 ∧ (∀ c ∈ gasEdge.name, 0x20 ≤ c.toNat ∧ c.toNat ≤ 0x7E) ∧ 1000 ≤ gasEdge.density
      ∧ gasEdge.density ≤ 9999
      ∧ State.reset.TurnOf ⟨0x20#8, 1, leBytes 1 7 ++ [0x00#8] ++ List.replicate 23 0xFF#8⟩ := by decide +kernel
theorem test_setClassEntry :
    gives (exec (.setClassEntry 1 ([31, 1, 1, 2, 0, 9, 0x20, 0x4E, 0, 0, 0, 1, 0x40, 0x0D, 3, 0])) State.reset)
      (fun t => t.tracker.classes[(31 : Nat)] = some ⟨some 2, none, 20000, 900, 200000⟩) = true := by decide +kernel
theorem test_setGasEntry :
    gives (exec (.setGasEntry 1 ([7, 1] ++ gasEdge.name ++ [1, 0x0F, 0x27, 1, 1, 0x60, 0xEA])) State.reset)
      (fun t => t.gases[(7 : Nat)] = some gasEdge) = true := by decide +kernel

/-- A trace ring with `n` entries, the oldest with the cycle time 0. -/
def traced (n : Nat) : State :=
  State.reset.setStation 2 { State.reset.station 2 with trace := (List.range n).map fun k => ⟨k, 400, 812⟩ }

theorem witness_QueriesAnswerAndChangeNothing :
    tripped.TurnOf ⟨0x03#8, 1, leBytes 4 4294967295⟩ ∧ tripped.TurnOf ⟨0x12#8, 1, leBytes 1 (familyCode .hydrocarbon)⟩
      ∧ tripped.TurnOf ⟨0x1C#8, 1, leBytes 2 65535⟩ ∧ tripped.TurnOf ⟨0x1D#8, 1, []⟩ ∧ tripped.TurnOf ⟨0x22#8, 1, []⟩
      ∧ tripped.TurnOf ⟨0x24#8, 1, []⟩ ∧ tripped.TurnOf ⟨0x2B#8, 1, []⟩ ∧ tripped.TurnOf ⟨0x35#8, 1, []⟩ := by
  decide +kernel
theorem witness_QueriesAnswerAndChangeNothing_trace :
    (traced 32).TurnOf ⟨0x0F#8, 1, [2, 31, 32]⟩ ∧ (traced 32).TurnOf ⟨0x0F#8, 1, [4, 0, 33]⟩ ∧ 3 < (4#8 : Byte).toNat
      ∧ 32 < (33#8 : Byte).toNat ∧ ((traced 32).station 2).trace ≠ [] ∧ ((traced 0).station 2).trace = []
      ∧ ((traced 32).station 2).trace.length ≤ (32#8 : Byte).toNat
      ∧ (31#8 : Byte).toNat < ((traced 32).station 2).trace.length := by decide +kernel
/-- 2.12: start 30 and count 4 return the entries 30, 31, 0 and 1. -/
theorem test_readTrace_wraps :
    gives (exec (.readTrace 1 [2, 30, 4]) (traced 32)) (fun t => (t.link.sending.map fun x => x.frame.payload)
      == some ([0x00#8, 32, 4] ++ traceBytes 30 ⟨30, 400, 812⟩ ++ traceBytes 31 ⟨31, 400, 812⟩
        ++ traceBytes 0 ⟨0, 400, 812⟩ ++ traceBytes 1 ⟨1, 400, 812⟩)) = true := by decide +kernel
theorem test_readTrace_start_refused :
    gives (exec (.readTrace 1 [2, 32, 4]) (traced 32))
      (fun t => (t.link.sending.map fun x => x.frame.payload) == some [0x09#8]) = true := by decide +kernel
/-- 11.5, 11.11: a record, a chamber and a receiver for the fields whose places depend on what is present. -/
theorem witness_QueriesAnswerAndChangeNothing_fields :
    ({ unitIn 7 .degassed with degas := some ⟨108250, -1, some (-3), 2, 4000, 3⟩ } : UnitRecord).degas
        = some ⟨108250, -1, some (-3), 2, 4000, 3⟩
      ∧ (charging (chargeIn .ventWait) running).chamber.standing = .charging (chargeIn .ventWait)
      ∧ (∀ x, running.chamber.standing ≠ .charging x) ∧ (running.receiver .fluorinated).lastClosed = none := by
  refine ⟨by decide, by decide, fun x h => ?_, by decide⟩
  exact absurd (show ChamberStanding.stopped = .charging x from h) (by simp)
/-- 11.5: the final pressure and the station of a degas result at their places. -/
theorem test_unit_record_places :
    let b := ({ unitIn 7 .degassed with degas := some ⟨108250, -1, some (-3), 2, 4000, 3⟩ } : UnitRecord).bytes
    field b 17 4 = 108250 ∧ field b 21 4 = 0xFFFFFFFF ∧ field b 31 2 = 4000 ∧ field b 33 1 = 3 := by decide +kernel
/-- R164: QUERY_RECEIVER reports the condition at the latest published scan, before the receiver takes it. -/
theorem test_queryReceiver_condition :
    field ((running.setScanner { running.scanner with published := some (scanOf ⟨.held, 1⟩) }).receiverBytes .hydrocarbon) 5 1
      = 1 := by decide +kernel
/-- 11.5, 11.11: the lengths of replies, the status byte counted. -/
theorem test_reply_lengths :
    (unitIn 7 .degassed).bytes.length = 50 ∧ (State.reset.receiverBytes .fluorinated).length = 82
      ∧ State.reset.chamber.queryBytes.length = 99 ∧ State.reset.imageBytes.length = 495
      ∧ State.reset.protectionBytes.length = 20 ∧ State.reset.shift.bytes.length = 266 := by decide +kernel

/-! ### Units -/

/-- ADMIT_UNIT's fields at the ends of their ranges. -/
def admitEdge : AdmitOperands := ⟨4294967295, 3, some 2000, some 20000⟩

theorem witness_AdmitUnitChecksAndCreates :
    (classed running).TurnOf ⟨0x01#8, 1, admitEdge.bytes⟩ ∧ (classed running).link.mode = .running ∧ 1 ≤ admitEdge.tag
      ∧ admitEdge.tag < 2 ^ 32 ∧ admitEdge.cls = (3 : Fin 32).val
      ∧ (classed running).tracker.classes[(3 : Fin 32)] = some ⟨some 2, some 0, 3200, 900, 60000⟩
      ∧ (classed running).gases[(2 : GasIndex)] ≠ none ∧ (classed running).gases[(0 : GasIndex)] ≠ none
      ∧ (∀ u ∈ (classed running).tracker.units, u.tag ≠ admitEdge.tag) ∧ (classed running).tracker.units.length < 64 := by
  decide +kernel
theorem witness_AdmitUnitChecksAndCreates_refused :
    State.reset.link.mode ≠ .running ∧ running.tracker.classes[(3 : Fin 32)] = none
      ∧ (∃ u ∈ (withUnits [unitIn 4294967295 .closed] (classed running)).tracker.units, u.tag = admitEdge.tag)
      ∧ 64 ≤ (withUnits (List.replicate 64 (unitIn 9 .closed)) (classed running)).tracker.units.length := by decide +kernel
theorem test_admitUnit :
    gives (exec (.admitUnit 1 admitEdge.bytes) (classed (cylinderF running)))
      (fun t => t.tracker.units.length = 1 && t.tracker.admissionCounter = 2 && (t.station 0).state = .assigned
        && (t.station 0).unit = some 4294967295) = true := by decide +kernel
theorem test_admitUnit_waits :
    gives (exec (.admitUnit 1 admitEdge.bytes) (classed running))
      (fun t => t.tracker.degasQueue = [4294967295] && (t.station 0).state = .idle) = true := by decide +kernel

/-- A line with a unit in each place that WITHDRAW_UNIT distinguishes. -/
def held (x : UnitState) : State :=
  withStation .assigned (withUnits [{ unitIn 7 x with station := some 1 }] running)

theorem witness_WithdrawAndTakeFreeRecords :
    (held .admitted).TurnOf ⟨0x02#8, 1, leBytes 4 7⟩
      ∧ ((held .assigned).tracker.units.find? fun u => u.tag = 7) = some { unitIn 7 .assigned with station := some 1 }
      ∧ (∀ u ∈ (held .admitted).tracker.units, u.tag ≠ 4294967295) ∧ (held .closed).TurnOf ⟨0x04#8, 1, []⟩ := by
  decide +kernel
theorem test_withdrawUnit :
    gives (exec (.withdrawUnit 1 [7, 0, 0, 0]) (held .assigned))
      (fun t => t.tracker.units.isEmpty && (t.station 1).state = .idle && (t.station 1).unit = none) = true := by
  decide +kernel
theorem test_takeClosed :
    gives (exec (.takeClosed 1 []) (withUnits ((List.range 9).map fun n => unitIn (n + 1) .closed)
        (running.setTracker { running.tracker with closedList := (List.range 9).map (· + 1) })))
      (fun t => t.tracker.closedList = [9] && (t.tracker.units.map (·.tag)) = [9]
        && (t.link.sending.map fun x => x.frame.payload.take 2) = some [0x00#8, 8]) = true := by decide +kernel
/-- Two ADMITTED units, 8 the older, and the F receiver IN_USE. -/
def waitingUnits : State :=
  let s := withUnits [unitIn 8 .admitted, unitIn 7 .admitted] (classed (cylinderF running))
  s.setTracker { s.tracker with degasQueue := [8, 7] }

theorem witness_ArbiterLeavesNothingToAssign :
    running.link.mode = .running ∧ State.reset.link.mode ≠ .running ∧ (running.station 0).state = .idle
      ∧ waitingUnits.link.mode = .running ∧ waitingUnits.tracker.degasQueue.Nodup
      ∧ waitingUnits.findUnit 8 = some (unitIn 8 .admitted) ∧ waitingUnits.eligible 8 = true := by decide +kernel
theorem test_arbiter_oldest_first :
    (waitingUnits.arbiterPass.station 0).unit = some 8 ∧ (waitingUnits.arbiterPass.station 1).unit = some 7
      ∧ waitingUnits.arbiterPass.tracker.degasQueue = [] := by decide +kernel
theorem test_anomaly_fifth_kind :
    ((withUnits [{ unitIn 7 .degassing with anomalies := [.emptyCircuit, .vacuumNotReached, .residualRise, .chargeSignalLost] }]
        running).reportFrom (some 7) .aborted).tracker.units.map (fun u => (u.anomalies.length, u.truncated, u.severe))
      = [(4, true, true)] := by decide +kernel

/-! ### Degassing stations -/

theorem witness_StationsSuspendAndResume :
    (withStation .evacuating running).CausesHeld ∧ (withStation .evacuating running).TurnOf ⟨0x08#8, 1, [1]⟩
      ∧ (1#8 : Byte).toNat = (1 : StationNo).val ∧ (withStation .evacuating running).link.mode ≠ .offline
      ∧ ((withStation .evacuating running).station 1).state = .evacuating
      ∧ (suspended .ofReceiver running).CausesHeld ∧ ((suspended .ofReceiver running).station 1).causes.requested = false
      ∧ (suspended .ofRequested running).CausesHeld ∧ ((suspended .ofRequested running).station 1).causes.requested = true
      ∧ ((suspended .ofRequested running).station 1).causes = ⟨true, false, false⟩
      ∧ (suspended .ofRequested (cylinderF running)).receiverBlocks 1 = false
      ∧ (suspended .ofRequested running).receiverBlocks 1 = true
      ∧ (suspended ⟨true, true, false⟩ running).CausesHeld
      ∧ ((suspended ⟨true, true, false⟩ running).station 1).causes.receiver = true
      ∧ 3 < (4#8 : Byte).toNat ∧ ((withStation .holding running).station 1).state ≠ .evacuating
      ∧ ((withStation .holding running).station 1).state ≠ .suspended := by decide +kernel
theorem test_suspendStation :
    gives (exec (.suspendStation 1 [1]) (withStation .evacuating running)) (fun t => (t.station 1).state = .suspended
      && (t.station 1).causes = .ofRequested && !t.pins.evac[(1 : Nat)] && t.pins.needle[(1 : Nat)]) = true := by
  decide +kernel
theorem test_resumeStation :
    gives (exec (.resumeStation 1 [1]) (suspended .ofRequested (cylinderF running)))
      (fun t => (t.station 1).state = .evacuating && t.pins.evac[(1 : Nat)]) = true
    ∧ gives (exec (.resumeStation 1 [1]) (suspended .ofRequested running))
      (fun t => (t.station 1).state = .suspended && (t.station 1).causes = .ofReceiver) = true := by decide +kernel
theorem witness_AbortStationEndsTheCycle :
    (withStation .holding running).TurnOf ⟨0x0A#8, 1, [1]⟩ ∧ (1#8 : Byte).toNat = (1 : StationNo).val
      ∧ ((withStation .holding running).station 1).state ∈ [StationState.piercing, .evacuating, .suspended, .holding]
      ∧ ((withStation .assigned running).station 1).state
          ∈ [StationState.idle, .assigned, .releasing, .unloading, .faulted, .locked] ∧ 3 < (4#8 : Byte).toNat := by
  decide +kernel
theorem test_abortStation :
    gives (exec (.abortStation 1 [1]) (withStation .holding (withUnits [unitIn 7 .degassing] running)))
      (fun t => (t.station 1).state = .releasing && (t.tracker.units.map (·.anomalies)) = [[.aborted]]) = true := by
  decide +kernel

/-- Station 1 in a state without a unit, with a latched fault. -/
def latched (x : StationState) (s : State) : State :=
  s.setStation 1 { s.station 1 with state := x, latch := some .pulled }

theorem witness_StationsAreLockedUnlockedAndReset :
    (1#8 : Byte).toNat = (1 : StationNo).val ∧ (latched .faulted running).TurnOf ⟨0x0B#8, 1, [1]⟩
      ∧ ((latched .faulted running).station 1).state = .faulted ∧ (latched .locked running).TurnOf ⟨0x0C#8, 1, [1]⟩
      ∧ ((latched .locked running).station 1).state = .locked ∧ (latched .locked running).link.mode ≠ .offline
      ∧ (∃ r : RoleNo, r.val < 12 ∧ r.val % 4 = (1 : StationNo).val ∧ ((latched .locked running).scanner.roles[r]).binding = none)
      ∧ (latched .locked State.reset).link.mode = .offline ∧ (latched .faulted running).TurnOf ⟨0x0D#8, 1, [1]⟩
      ∧ (withStation .unloading running).TurnOf ⟨0x0B#8, 1, [1]⟩
      ∧ ((withStation .unloading running).station 1).state ∉ [StationState.idle, .faulted, .locked]
      ∧ running.TurnOf ⟨0x0B#8, 1, [4]⟩ ∧ running.TurnOf ⟨0x0C#8, 1, [4]⟩ ∧ 3 < (4#8 : Byte).toNat := by decide +kernel
theorem test_lockStation :
    gives (exec (.lockStation 1 [1]) (latched .faulted running))
      (fun t => (t.station 1).state = .locked && (t.station 1).latch = some .pulled) = true := by decide +kernel
theorem test_unlockStation :
    gives (exec (.unlockStation 1 [1]) (latched .locked State.reset))
      (fun t => (t.station 1).state = .idle && (t.station 1).latch = none) = true
    ∧ gives (exec (.unlockStation 1 [1]) (latched .locked running)) (fun t => (t.station 1).state = .locked) = true := by
  decide +kernel
theorem test_resetStation :
    gives (exec (.resetStation 1 [1]) (latched .faulted tripped))
      (fun t => (t.station 1).state = .idle && (t.station 1).latch = none) = true := by decide +kernel

/-- Station 1 in a state with a latest pressure and a hold start. -/
def atPressure (x : StationState) (p q : Int) (n : Nat) (s : State) : State :=
  let t := withStation x s
  t.setStation 1 { t.station 1 with latestPressure := p, holdStart := q, reevacuations := n }

theorem witness_PierceTimeEndTestsTheCircuit :
    (atPressure .piercing 1100 0 0 running).CausesHeld ∧ ((atPressure .piercing 1100 0 0 running).station 1).state = .piercing
      ∧ ((atPressure .piercing 1100 0 0 running).station 1).latestPressure ≤ 1100
      ∧ (1100 : Int) < ((atPressure .piercing 1101 0 0 running).station 1).latestPressure
      ∧ (aged 29500 (atPressure .piercing 1100 0 0 running)).mayPass (30 * 1000 - 29500) = true
      ∧ (aged 29500 (atPressure .piercing 1101 0 0 running)).mayPass (30 * 1000 - 29500) = true
      ∧ (atPressure .piercing 1101 0 0 running).receiverBlocks 1 = true
      ∧ (atPressure .piercing 1101 0 0 (cylinderF running)).receiverBlocks 1 = false := by decide +kernel
theorem test_pierceTimeEnd_empty :
    gives (exec (.pierceTimeEnd 1) (aged 29500 (atPressure .piercing 1100 0 0 (withUnits [unitIn 7 .degassing] running))))
      (fun t => (t.station 1).state = .releasing && t.now = 500
        && (t.tracker.units.map (·.anomalies)) = [[.emptyCircuit]]) = true := by decide +kernel
theorem test_pierceTimeEnd_enters :
    gives (exec (.pierceTimeEnd 1) (aged 29500 (atPressure .piercing 1101 0 0 (cylinderF running))))
      (fun t => (t.station 1).state = .evacuating && t.pins.evac[(1 : Nat)]) = true
    ∧ gives (exec (.pierceTimeEnd 1) (aged 29500 (atPressure .piercing 1101 0 0 running)))
      (fun t => (t.station 1).state = .suspended && (t.station 1).causes = .ofReceiver) = true := by decide +kernel
theorem witness_StationTimersEndPhases :
    ((aged 5999500 (withStation .evacuating running)).station 1).state = .evacuating
      ∧ (aged 5999500 (withStation .evacuating running)).mayPass (600 * 10000 + 1 - 5999500) = true
      ∧ ((aged 5999500 (suspended .ofReceiver running)).station 1).state = .suspended
      ∧ (aged 5999500 (suspended .ofReceiver running)).mayPass (600 * 10000 + 1 - 5999500) = true
      ∧ ((aged 19500 (withStation .releasing running)).station 1).state = .releasing
      ∧ (aged 19500 (withStation .releasing running)).mayPass (20000 - 19500) = true := by decide +kernel
theorem test_evacuationLimitExpiry :
    gives (exec (.evacuationLimitExpiry 1) (aged 5999500 (withStation .evacuating (withUnits [unitIn 7 .degassing] running))))
      (fun t => (t.station 1).state = .releasing && (t.tracker.units.map (·.anomalies)) = [[.vacuumNotReached]]
        && t.now = 501) = true := by decide +kernel
theorem test_suspendLimitExpiry :
    gives (exec (.suspendLimitExpiry 1) (aged 5999500 (suspended .ofReceiver (withUnits [unitIn 7 .degassing] running))))
      (fun t => (t.station 1).state = .releasing && (t.station 1).causes = .empty
        && (t.tracker.units.map (·.severe)) = [true]) = true := by decide +kernel
theorem test_releaseTimeEnd :
    gives (exec (.releaseTimeEnd 1) (aged 19500 (atPressure .releasing 25 20 1 (withUnits [unitIn 7 .degassing] running))))
      (fun t => (t.station 1).state = .unloading
        && (t.tracker.units.map fun u => (u.state, u.degas.map (·.finalPressure))) = [(.degassed, some 25)]) = true := by
  decide +kernel
theorem witness_HoldTimeEndTestsTheRise :
    (atPressure .holding 40 25 0 running).CausesHeld ∧ ((atPressure .holding 40 25 0 running).station 1).state = .holding
      ∧ ((atPressure .holding 40 25 0 running).station 1).latestPressure
          - ((atPressure .holding 40 25 0 running).station 1).holdStart ≤ 15
      ∧ (15 : Int) < ((atPressure .holding 41 25 2 running).station 1).latestPressure
          - ((atPressure .holding 41 25 2 running).station 1).holdStart
      ∧ (aged 599500 (atPressure .holding 40 25 0 running)).mayPass (60 * 10000 - 599500) = true
      ∧ (aged 599500 (atPressure .holding 41 25 2 running)).mayPass (60 * 10000 - 599500) = true
      ∧ 2 ≤ ((atPressure .holding 41 25 2 running).station 1).reevacuations
      ∧ ((atPressure .holding 41 25 1 running).station 1).reevacuations < 2 := by decide +kernel
theorem test_holdTimeEnd_passed :
    gives (exec (.holdTimeEnd 1) (aged 599500 (atPressure .holding 40 25 0 running)))
      (fun t => (t.station 1).state = .releasing && (t.station 1).lastRise = some 15 && t.now = 500) = true := by
  decide +kernel
theorem test_holdTimeEnd_again :
    gives (exec (.holdTimeEnd 1) (aged 599500 (atPressure .holding 41 25 1 (cylinderF running))))
      (fun t => (t.station 1).state = .evacuating && (t.station 1).reevacuations = 2) = true := by decide +kernel
theorem witness_StationScanIntegratesOrEnds :
    let s := toTake (.station 1) (scan571 1000 ⟨.valid, 812⟩) (station571 0)
    scanFor (.station 1) s.toTake = some (scan571 1000 ⟨.valid, 812⟩) ∧ (s.station 1).state = .evacuating
      ∧ (s.station 1).family = some .fluorinated ∧ (s.receiver .fluorinated).standing = .inUse ⟨5, 30000, 0⟩
      ∧ ((scan571 1000 ⟨.valid, 812⟩).role (roleStationFlow 1)).condition ≠ .lost
      ∧ ((scan571 1000 ⟨.valid, 812⟩).role (roleStationPressure 1)).condition ≠ .lost
      ∧ ((scan571 1000 ⟨.valid, 812⟩).role (roleStationPresence 1)).condition ≠ .lost
      ∧ (s.station 1).lastSeen
          = some (decide (((scan571 1000 ⟨.valid, 812⟩).role (roleStationPresence 1)).value ≠ 0))
      ∧ (s.station 1).trace.length ≤ 32 := by decide +kernel
theorem witness_StationScanIntegratesOrEnds_lost :
    let s := toTake (.station 1) (scan571 1000 ⟨.lost, 0⟩) (station571 0)
    scanFor (.station 1) s.toTake = some (scan571 1000 ⟨.lost, 0⟩)
      ∧ (s.station 1).state ∈ [StationState.piercing, .evacuating, .suspended, .holding]
      ∧ (∃ r ∈ [roleStationFlow 1, roleStationPressure 1, roleStationPresence 1],
          ((scan571 1000 ⟨.lost, 0⟩).role r).condition = .lost)
      ∧ (s.station 1).lastSeen
          = some (decide (((scan571 1000 ⟨.lost, 0⟩).role (roleStationPresence 1)).value ≠ 0)) := by decide +kernel
/-- 2.3: the first presence seen is no change; a scan in HOLDING keeps the pressure. -/
theorem witness_StationScanIntegratesOrEnds_first :
    let s := toTake (.station 1) (scan571 1000 ⟨.valid, 812⟩) (withStation .holding running)
    scanFor (.station 1) s.toTake = some (scan571 1000 ⟨.valid, 812⟩) ∧ (s.station 1).lastSeen = none
      ∧ (s.station 1).state ∈ [StationState.piercing, .suspended, .holding]
      ∧ (withStation .unloading s |>.station 1).state
          ∈ [StationState.idle, .assigned, .releasing, .unloading, .faulted, .locked] := by decide +kernel
theorem test_stationScan_holding :
    gives (exec (.stationScan 1) (toTake (.station 1) (scan571 1000 ⟨.valid, 812⟩) (withStation .holding running)))
      (fun t => (t.station 1).state = .holding && (t.station 1).latestPressure = 400
        && (t.station 1).lastSeen = some true && (t.station 1).accumulator = 0) = true := by decide +kernel
theorem test_stationScan_lost :
    gives (exec (.stationScan 1) (toTake (.station 1) (scan571 1000 ⟨.lost, 0⟩) (station571 77)))
      (fun t => (t.station 1).state = .releasing && (t.station 1).latch = some .signalLost
        && (t.station 1).accumulator = 77) = true := by decide +kernel

/-- Station 1 in a state, the appliance last seen present or not, with a scan that carries the change. -/
def changed (x : StationState) (present : Bool) (s : State) : State :=
  let t := withStation x s
  toTake (.station 1)
    (scanWith (roleStationPresence 1) ⟨.valid, if present then 1 else 0⟩ (scanOf ⟨.valid, 900⟩))
    (t.setStation 1 { t.station 1 with lastSeen := some (!present) })

theorem witness_PresenceChangesMoveTheStation :
    let x := scanWith (roleStationPresence 1) ⟨.valid, 1⟩ (scanOf ⟨.valid, 900⟩)
    scanFor (.station 1) (changed .assigned true running).toTake = some x
      ∧ (x.role (roleStationPresence 1)).condition ∈ [Condition.valid, .held]
      ∧ ((x.role (roleStationPresence 1)).value ≠ 0 ↔ true = true)
      ∧ ((changed .assigned true running).station 1).lastSeen = some (!true)
      ∧ ((changed .assigned true running).station 1).state = .assigned ∧ signalLostAt 1 x = false := by decide +kernel
theorem witness_PresenceChangesMoveTheStation_removal :
    let x := scanWith (roleStationPresence 1) ⟨.valid, 0⟩ (scanOf ⟨.valid, 900⟩)
    scanFor (.station 1) (changed .unloading false running).toTake = some x
      ∧ ((x.role (roleStationPresence 1)).value ≠ 0 ↔ false = true)
      ∧ ((changed .unloading false running).station 1).lastSeen = some (!false)
      ∧ ((changed .unloading false running).station 1).state = .unloading
      ∧ ((changed .unloading false running).station 1).latch = none := by decide +kernel
/-- R10, R11, R33: the records of a removal and of a pull, and a scan with a LOST flow at an arrival. -/
theorem witness_PresenceChangesMoveTheStation_records :
    let s := changed .unloading false (withUnits [unitIn 7 .degassed] running)
    let p := changed .releasing false (withUnits [unitIn 7 .degassing] running)
    let x := scanWith (roleStationPresence 1) ⟨.valid, 1⟩ (scanOf ⟨.lost, 0⟩)
    (s.station 1).unit = some 7 ∧ (s.tracker.units.find? fun u => u.tag = 7) = some (unitIn 7 .degassed)
      ∧ (p.station 1).state ∈ [StationState.piercing, .evacuating, .suspended, .holding, .releasing]
      ∧ (p.station 1).unit = some 7 ∧ (p.tracker.units.find? fun u => u.tag = 7) = some (unitIn 7 .degassing)
      ∧ signalLostAt 1 x = true ∧ (x.role (roleStationPresence 1)).condition ∈ [Condition.valid, .held] := by decide +kernel
/-- R48, R49: a fall in EVACUATING at a scan with the flow and the pressure LOST. -/
theorem witness_PresenceChangesMoveTheStation_lost :
    let x := scanWith (roleStationPresence 1) ⟨.valid, 0⟩ (scanOf ⟨.lost, 0⟩)
    let s := toTake (.station 1) x (changed .evacuating false (withUnits [unitIn 7 .degassing] running))
    scanFor (.station 1) s.toTake = some x ∧ signalLostAt 1 x = true ∧ (s.station 1).state = .evacuating
      ∧ (x.role (roleStationPresence 1)).condition ∈ [Condition.valid, .held] ∧ (s.station 1).lastSeen = some (!false)
      ∧ (s.station 1).unit = some 7 ∧ (s.tracker.units.find? fun u => u.tag = 7) = some (unitIn 7 .degassing) := by
  decide +kernel
theorem test_presence_removal :
    gives (exec (.stationScan 1) (changed .unloading false (withUnits [unitIn 7 .degassed] running)))
      (fun t => t.tracker.shredQueue = [7] && (t.tracker.units.map (·.state)) = [.shredQueued]
        && (t.station 1).state = .idle) = true := by decide +kernel
theorem test_presence_arrival :
    gives (exec (.stationScan 1) (changed .assigned true (withUnits [unitIn 7 .assigned] running)))
      (fun t => (t.station 1).state = .piercing && (t.tracker.units.map (·.state)) = [.degassing]
        && (t.station 1).latestPressure = 900 && t.pins.needle[(1 : Nat)]) = true := by decide +kernel
theorem test_presence_pull :
    gives (exec (.stationScan 1) (changed .evacuating false (withUnits [unitIn 7 .degassing] running)))
      (fun t => (t.station 1).state = .faulted && (t.station 1).latch = some .pulled && !t.pins.evac[(1 : Nat)]
        && (t.tracker.units.map (·.anomalies)) = [[.pulled]]) = true := by decide +kernel

/-! ### Recovery receivers -/

/-- The F receiver's weight at a published scan. -/
def weighed (w : Int) (s : State) : State :=
  toTake (.receiver .fluorinated) (scanWith (roleReceiverWeight .fluorinated) ⟨.valid, w⟩ (scanOf ⟨.valid, 0⟩)) s

theorem witness_ReceiverScanDetectsTheFill :
    let s := weighed 75000 (cylinderF (withStation .evacuating running))
    s.CausesHeld
      ∧ scanFor (.receiver .fluorinated) s.toTake
          = some (scanWith (roleReceiverWeight .fluorinated) ⟨.valid, 75000⟩ (scanOf ⟨.valid, 0⟩))
      ∧ (s.receiver .fluorinated).standing = .inUse ⟨5, 30000, 0⟩
      ∧ ((s.receiver .fluorinated).fillLimit : Int) ≤ 75000 - ((30000 : Nat) : Int)
      ∧ ¬ ((s.receiver .fluorinated).fillLimit : Int) ≤ 74999 - ((30000 : Nat) : Int) := by decide +kernel
theorem test_receiverScan_full :
    gives (exec (.receiverScan .fluorinated) (weighed 75000 (cylinderF (withStation .evacuating running))))
      (fun t => t.receiverF.standing = .full ⟨5, 30000, 0⟩ && (t.station 1).causes = .ofReceiver) = true := by decide +kernel
theorem test_receiverScan_below :
    gives (exec (.receiverScan .fluorinated) (weighed 74999 (cylinderF (withStation .evacuating running))))
      (fun t => t.receiverF.standing = .inUse ⟨5, 30000, 0⟩ && t.receiverF.weight = some 74999
        && (t.station 1).state = .evacuating) = true := by decide +kernel

/-- The F receiver in SWAPPING with a VALID weight, station 1 SUSPENDED with RECEIVER. -/
def swapping (w : Int) : State :=
  let s := suspended .ofReceiver running
  { s with receiverF := { s.receiverF with weight := some w, weightCondition := some .valid } }

theorem witness_SwapsCloseAndBeginCylinders :
    (cylinderF running).TurnOf ⟨0x10#8, 1, leBytes 1 (familyCode .fluorinated)⟩
      ∧ ((cylinderF running).receiver .fluorinated).standing = .inUse ⟨5, 30000, 0⟩
      ∧ (¬ ∃ i, ((cylinderF running).station i).state = .evacuating ∧ ((cylinderF running).station i).family = some .fluorinated)
      ∧ (∃ i, ((withStation .evacuating running).station i).state = .evacuating
          ∧ ((withStation .evacuating running).station i).family = some .fluorinated)
      ∧ (swapping 31250).CausesHeld
      ∧ (swapping 31250).TurnOf ⟨0x11#8, 1, leBytes 1 (familyCode .fluorinated) ++ leBytes 4 4294967295⟩
      ∧ ((swapping 31250).receiver .fluorinated).standing = .swapping
      ∧ ((swapping 31250).receiver .fluorinated).weight = some 31250
      ∧ ((swapping 31250).receiver .fluorinated).weightCondition = some .valid
      ∧ ((swapping 31250).station 1).causes = ⟨false, true, false⟩ ∧ (swapping 31250).link.mode ≠ .tripped
      ∧ ((swapping (-1)).receiver .fluorinated).weight = some (-1)
      ∧ ((suspended .ofRequested (swapping 31250)).station 1).causes.receiver = false
      ∧ ((suspended .ofRequested (swapping 31250)).station 1).state ≠ .idle := by decide +kernel
theorem test_beginSwap :
    gives (exec (.beginSwap 1 [0]) { cylinderF running with
        receiverF := { (cylinderF running).receiverF with standing := .full ⟨5, 30000, 45100750000000⟩, weight := some 75080 } })
      (fun t => t.receiverF.standing = .swapping
        && t.receiverF.lastClosed = some ⟨5, 30000, some 45080, 45100750, some (-20750)⟩) = true := by decide +kernel
theorem test_endSwap :
    gives (exec (.endSwap 1 [0, 6, 0, 0, 0]) (swapping 31250))
      (fun t => t.receiverF.standing = .inUse ⟨6, 31250, 0⟩ && (t.station 1).state = .evacuating) = true
    ∧ gives (exec (.endSwap 1 [0, 6, 0, 0, 0]) (swapping (-1))) (fun t => t.receiverF.standing = .swapping) = true := by
  decide +kernel

/-! ### The shredding chamber -/

/-- Settings for F mode with trichlorofluoromethane, out of their ranges. -/
def stagedWide : SettingsOperands := ⟨.fluorinated, 0, 16385, 16, 100, 5600, 0⟩

theorem witness_ChamberIsStagedStartedAndStopped :
    running.TurnOf ⟨0x18#8, 1, stagedWide.bytes⟩ ∧ stagedWide.gas < 256 ∧ stagedWide.b < 65536 ∧ stagedWide.x < 256
      ∧ stagedWide.s < 2 ^ 32 ∧ stagedWide.e < 2 ^ 32 ∧ stagedWide.k < 256 ∧ running.link.mode ≠ .tripped
      ∧ (running.gases[(0 : GasIndex)]).map (·.family) = some stagedWide.mode
      ∧ (running.gases[(4 : GasIndex)]).map (·.family) ≠ some stagedWide.mode
      ∧ running.TurnOf ⟨0x19#8, 1, []⟩ ∧ running.chamber.standing = .stopped
      ∧ (running.gases[running.chamber.staged.gas]).map (·.family) = some running.chamber.staged.mode
      ∧ (running.setChamber { running.chamber with standing := .waiting }).TurnOf ⟨0x1A#8, 1, []⟩
      ∧ (charging (chargeIn .load) running).chamber.standing = .charging (chargeIn .load)
      ∧ (charging (chargeIn .load) running).chamber.stopPending = false ∧ tripped.chamber.standing = .halted := by
  decide +kernel
theorem test_stageChamberSettings :
    gives (exec (.stageChamberSettings 1 stagedWide.bytes) running)
      (fun t => t.chamber.staged = ⟨.fluorinated, 0, 16384, 15, 100, 5600, 1⟩ && t.chamber.stagingPending
        && (t.link.sending.map fun x => x.frame.payload.take 1) = some [0x02#8]) = true := by decide +kernel
theorem test_startChamber :
    gives (exec (.startChamber 1 []) running) (fun t => match t.chamber.standing with
        | .charging c => c.number = 1 && c.flags.void && c.phase = .load && !t.pins.doorPermit
        | _ => false) = true
    ∧ gives (exec (.startChamber 1 []) State.reset) (fun t => t.chamber.standing = .stopped) = true := by decide +kernel
theorem test_stopChamber :
    gives (exec (.stopChamber 1 []) (charging (chargeIn .load) running)) (fun t => t.chamber.stopPending) = true
    ∧ gives (exec (.stopChamber 1 []) (running.setChamber { running.chamber with standing := .waiting }))
      (fun t => t.chamber.standing = .stopped) = true := by decide +kernel
theorem witness_WindowIsMadeLegal :
    256 ≤ (ChamberSettings.mk .fluorinated 0 256 0 0 0 1).b ∧ 16 ≤ (200 : Nat) ∧ 200 + 64 ≤ (5600 : Nat)
      ∧ 5600 + 32 ≤ (0 + 1) * 6000 ∧ 200 % 8 = 0 ∧ 5600 % 8 = 0 := by decide
theorem witness_WindowIsMadeLegal_step :
    tripping.WindowHeld ∧ gives (step tripping) (fun t => t.link.mode = .tripped) = true := by decide +kernel
/-- A WAITING chamber of gas 0 with a unit of class 3 (foam gas 0) or of class 4 (foam gas 5) at the head of the Shred Queue. -/
def waitingFor (cls : Nat) : State :=
  let s := withUnits [{ unitIn 8 .shredQueued with cls := cls }] (classed running)
  let t := s.setTracker { s.tracker with
    shredQueue := [8], classes := s.tracker.classes.set 4 (some ⟨none, some 5, 0, 900, 60000⟩) }
  t.setChamber { t.chamber with standing := .waiting }

theorem witness_BoundaryLoadsFromTheHead :
    State.reset.chamber.startPending = false ∧ State.reset.chamber.staged.mode = State.reset.chamber.inForce.mode
      ∧ State.reset.chamber.staged.gas = State.reset.chamber.inForce.gas ∧ State.reset.chamber.standing ≠ .waiting
      ∧ (State.reset.setChamber { Chamber.reset with startPending := true }).chamber.startPending = true := by decide
theorem witness_BoundaryLoadsFromTheHead_waiting :
    (waitingFor 4).chamber.standing = .waiting ∧ (waitingFor 4).tracker.shredQueue = [8] ∧ (waitingFor 4).loadable 8 = false
      ∧ (waitingFor 3).loadable 8 = true
      ∧ ((waitingFor 4).tracker.units.find? fun u => u.tag = 8) = some { unitIn 8 .shredQueued with cls := 4 }
      ∧ (waitingFor 4).tracker.classes[(4 : Fin 32)] = some ⟨none, some 5, 0, 900, 60000⟩ := by decide +kernel
theorem test_waitingDecision :
    (waitingFor 4).waitingDecision.chamber.lastMismatch = some (8, 1)
      ∧ (waitingFor 4).waitingDecision.chamber.standing = .waiting
      ∧ (waitingFor 3).waitingDecision.chamber.standing.units = [8] := by decide +kernel
/-- R12: of two units of class 3 (foam gas 0) and one of an undefined class, the first two are loaded. -/
theorem test_boundary_loads :
    let s := withUnits [unitIn 7 .shredQueued, unitIn 8 .shredQueued, { unitIn 9 .shredQueued with cls := 4 }] (classed running)
    let t := (s.setTracker { s.tracker with
      shredQueue := [8, 7, 9], classes := s.tracker.classes.set 4 (some ⟨none, some 5, 0, 900, 60000⟩) }).boundary
    t.tracker.shredQueue = [9] ∧ t.tracker.units.map (·.state) = [.inCharge, .inCharge, .shredQueued] := by decide +kernel

/-- A chamber scan with one reading for every role. -/
def chamberScan (x : RoleReading) (s : State) : State := toTake .chamber (scanOf x) s

theorem witness_ChamberScanCountsThePhases :
    scanFor .chamber (chamberScan ⟨.valid, 40⟩ (chargingH { chargeIn .load with index := 199 } running)).toTake
        = some (scanOf ⟨.valid, 40⟩)
      ∧ (chargingH { chargeIn .load with index := 199 } running).chamber.standing
          = .charging { chargeIn .load with index := 199 }
      ∧ 199 + 1 = (chargingH { chargeIn .load with index := 199 } running).chamber.inForce.s
      ∧ (chargeIn .load).index + 1 ≠ running.chamber.inForce.s
      ∧ (charging { chargeIn .tail with index := 5600 } running).chamber.standing = .charging { chargeIn .tail with index := 5600 }
      ∧ 5600 + 1 ≠ running.chamber.inForce.period ∧ running.chamber.standing = .stopped := by decide +kernel
theorem witness_ChamberScanCountsThePhases_last :
    let c := { chargeIn .tail with index := 5999 }
    (charging c running).chamber.standing = .charging c ∧ c.index + 1 = (charging c running).chamber.inForce.period
      ∧ limited 60000 199 < (charging c running).chamber.limits.ventLevel
      ∧ ¬ limited 60000 200 < (charging c running).chamber.limits.ventLevel
      ∧ (chargingH c running).chamber.inForce.mode = .hydrocarbon
      ∧ ((scanOf ⟨.absent, 0⟩).role roleChamberConc).condition = .absent := by decide +kernel
theorem test_chamberScan_ventWait :
    gives (exec .chamberScan (chamberScan ⟨.valid, 200⟩ (charging { chargeIn .tail with index := 5999 } running)))
      (fun t => t.chamber.standing.phase = some .ventWait) = true
    ∧ gives (exec .chamberScan (chamberScan ⟨.lost, 0⟩ (chargingH { chargeIn .tail with index := 5999 } running)))
      (fun t => t.link.mode = .tripped && t.protection.causes.signalLost
        && (t.chamber.history.map (·.flags.truncated)) = [true]) = true := by decide +kernel
theorem test_chamberScan_waits_for_inerting :
    gives (exec .chamberScan (chamberScan ⟨.valid, 41⟩ (chargingH { chargeIn .load with index := 199 } running)))
      (fun t => t.chamber.standing.phase = some .inertWait && t.pins.nitrogen) = true
    ∧ gives (exec .chamberScan (chamberScan ⟨.valid, 40⟩ (chargingH { chargeIn .load with index := 199 } running)))
      (fun t => t.chamber.standing.phase = some .window && t.pins.shredRun) = true := by decide +kernel
theorem test_chamberScan_tail_end :
    gives (exec .chamberScan (chamberScan ⟨.valid, 44⟩ (charging
        { chargeIn .tail with index := 5999, tailSum := 117, tailCount := 3, mass := 7000000 } running)))
      (fun t => t.chamber.baseline = 40 && (t.chamber.history.map fun r => (r.number, r.mass)) = [(9, 7)]
        && t.shift.charges = 1) = true := by decide +kernel
theorem witness_ChamberScanIntegrates :
    let s := toTake .chamber (scan572 ⟨.valid, 333⟩ ⟨.held, 1277⟩) (chamber572 0 0)
    scanFor .chamber s.toTake = some (scan572 ⟨.valid, 333⟩ ⟨.held, 1277⟩)
      ∧ s.chamber.standing = .charging { chargeIn .window with index := 300, number := 61 }
      ∧ (chargeIn .window).phase = .window ∧ (s.gases[s.chamber.inForce.gas]).map (·.density) = some 5714
      ∧ s.chamber.inForce.mode = .fluorinated
      ∧ (chargingH (chargeIn .ventWait) running).chamber.inForce.mode = .hydrocarbon := by decide +kernel
theorem witness_ChargeEndKeepsTheBooks :
    State.reset.chamber.history.length ≤ 16 ∧ (chargeIn .tail).flags.void = false ∧ (chargeIn .tail).vented = false
      ∧ (chargeIn .tail).tailClean = true ∧ State.reset.chamber.stopPending = false := by decide

/-! ### Accounting -/

theorem witness_SharesFollowTheRemainders :
    ([3, 3, 3, 0] : List Nat) ≠ [] ∧ 0 < ([3, 3, 3, 0] : List Nat).sum ∧ ([0, 0] : List Nat).sum = 0
      ∧ 0 < 10 - (([3, 3, 3, 0] : List Nat).map fun w => 10 * w / 9).sum := by decide

/-- Unit 7 IN_CHARGE in class 3, with a degas result. -/
def judged : State :=
  withUnits [{ unitIn 7 .inCharge with degas := recovered 108250, charge := some 13 }] (classed running)

/-- A finished charge of 210,002 mg in F mode. -/
def record13 : ChargeRecord :=
  { number := 13, flags := .none, mode := .fluorinated, gas := 0, period := 6000, s := 200, e := 5600, baselineUsed := 40
    scansIntegrated := 5400, heldScans := 0, clampedScans := 0, mass := 210002, residue := 0, units := [(7, 210002)] }

theorem witness_ClosureJudgesAndCredits :
    (judged.tracker.units.find? fun u => u.tag = 7)
        = some { unitIn 7 .inCharge with degas := recovered 108250, charge := some 13 }
      ∧ (unitIn 7 .inCharge).state = .inCharge ∧ (unitIn 7 .inCharge).cls = (3 : Fin 32).val
      ∧ judged.tracker.classes[(3 : Fin 32)] = some ⟨some 2, some 0, 3200, 900, 60000⟩ := by decide +kernel
/-- 1.8.4: 108,250 mg of 120 g and a yield of 70,000 are ACCEPTED. -/
theorem test_closure_7001 :
    let t := judged.closeUnit record13 (7, 210002)
    t.tracker.closedList = [7] ∧ t.tracker.units.map (fun u => (u.state, u.verdict)) = [(.closed, some .accepted)]
      ∧ t.shift.refrigerant[(2 : GasIndex)] = 108250 ∧ t.shift.attributed[(0 : GasIndex)] = 210002 := by decide +kernel
theorem witness_CloseShiftOpensTheNext :
    ({ running with shift := .opened 65535 } : State).TurnOf ⟨0x25#8, 1, []⟩ := by decide
theorem test_closeShift :
    gives (exec (.closeShift 1 []) { running with shift := { Shift.opened 65535 with trips := 3 } })
      (fun t => t.shift = .opened 1) = true := by decide +kernel

/-! ### Flammable Gas Protection -/

/-- Station 1 in a state, of the H family. -/
def hydrocarbonStation (x : StationState) (c : Causes) (s : State) : State :=
  s.setStation 1 { s.station 1 with state := x, unit := some 7, family := some .hydrocarbon, causes := c }

theorem witness_EmergencyAndTimeoutsTripTheLine :
    running.TurnOf ⟨0x29#8, 1, []⟩ ∧ running.link.mode = .running ∧ running.protection.causes = .empty
      ∧ tripped.TurnOf ⟨0x29#8, 1, []⟩ ∧ tripped.protection.causes.requestedTrip = false
      ∧ State.reset.protection.causes.requestedTrip = false
      ∧ (chargingH (chargeIn .inertWait) running).chamber.standing = .charging (chargeIn .inertWait)
      ∧ (chargingH (chargeIn .ventWait) running).chamber.standing = .charging (chargeIn .ventWait) := by decide +kernel
theorem witness_EmergencyAndTimeoutsTripTheLine_due :
    (chargingH { chargeIn .inertWait with waitElapsed := 1199500 } running).mayPass (120 * 10000 + 1 - 1199500) = true
      ∧ (chargingH { chargeIn .ventWait with waitElapsed := 2999500 } running).mayPass (300 * 10000 + 1 - 2999500) = true := by
  decide +kernel
/-- R96: the unit of the charge that runs at the trip. -/
theorem test_trip_closes_units :
    gives (exec (.emergencyTrip 1 []) (charging { chargeIn .window with units := [7] }
        (withUnits [{ unitIn 7 .inCharge with charge := some 9 }] (classed running))))
      (fun t => (t.tracker.units.map fun u => (u.state, u.verdict)) = [(.closed, some .incomplete)]
        && t.tracker.closedList = [7] && (t.chamber.history.map (·.flags.truncated)) = [true]) = true := by decide +kernel
theorem test_emergencyTrip :
    gives (exec (.emergencyTrip 1 []) (hydrocarbonStation .evacuating .empty (withStation .evacuating running)))
      (fun t => t.link.mode = .tripped && t.chamber.standing = .halted && t.pins.nitrogen && t.shift.trips = 1
        && (t.station 1).causes = .ofTrip && !t.pins.evac[(1 : Nat)]) = true
    ∧ gives (exec (.emergencyTrip 1 []) (withStation .evacuating running))
      (fun t => (t.station 1).state = .evacuating && t.protection.causes = .ofRequested) = true := by decide +kernel
theorem test_inertTimeoutExpiry :
    gives (exec .inertTimeoutExpiry (chargingH { chargeIn .inertWait with waitElapsed := 1200000 } running))
      (fun t => t.link.mode = .tripped && t.protection.causes = .ofInertingFailed && t.now = 1
        && (t.chamber.history.map (·.flags.truncated)) = [true]) = true := by decide +kernel
theorem test_ventTimeoutExpiry :
    gives (exec .ventTimeoutExpiry (chargingH { chargeIn .ventWait with waitElapsed := 2999500 } running))
      (fun t => t.protection.causes = .ofVentFailed && t.now = 501) = true := by decide +kernel

/-- A tripped line whose clear-hold run began at moment 0, station 1 SUSPENDED with TRIP. -/
def clearing (now : Nat) : State :=
  let s := hydrocarbonStation .suspended .ofTrip tripped
  { s with
    now := now, protection := { s.protection with clearHold := some 0 }
    receiverH := { s.receiverH with standing := .inUse ⟨5, 30000, 0⟩ } }

theorem witness_ClearTripReturnsToRunning :
    (clearing 300000).TurnOf ⟨0x2A#8, 1, []⟩ ∧ (clearing 300000).ModeHeld ∧ (clearing 300000).CausesHeld
      ∧ (clearing 300000).link.mode = .tripped ∧ (clearing 300000).protection.clearHold = some 0
      ∧ (clearing 300000).protection.limits.clearHold * 10000 ≤ (clearing 300000).now - 0
      ∧ (clearing 299999).now - 0 < (clearing 299999).protection.limits.clearHold * 10000 := by decide +kernel
theorem witness_ClearTripReturnsToRunning_stations :
    ((clearing 300000).station 1).causes = ⟨false, false, true⟩ ∧ (clearing 300000).receiverBlocks 1 = false
      ∧ running.ModeHeld ∧ State.reset.ModeHeld := by decide +kernel
theorem witness_ClearTripReturnsToRunning_kept :
    ((suspended .ofRequested (clearing 300000)).station 1).causes.trip = false
      ∧ (suspended .ofRequested (clearing 300000)).CausesHeld := by decide +kernel
theorem witness_ClearTripReturnsToRunning_kept_mode :
    (suspended .ofRequested (clearing 300000)).ModeHeld := by decide +kernel
theorem test_clearTrip :
    gives (exec (.clearTrip 1 []) (clearing 300000))
      (fun t => t.link.mode = .running && t.chamber.standing = .stopped && (t.station 1).state = .evacuating) = true
    ∧ gives (exec (.clearTrip 1 []) (clearing 299999)) (fun t => t.link.mode = .tripped) = true := by decide +kernel

/-- The H-mode chamber in LOAD, with a scan for Protection in which concentration and oxygen read the same. -/
def watched (v : Int) : State := toTake .protection (scanOf ⟨.valid, v⟩) (chargingH (chargeIn .load) running)

theorem witness_ProtectionScanFindsTheCauses :
    scanFor .protection (watched 2750).toTake = some (scanOf ⟨.valid, 2750⟩) ∧ (watched 2750).ModeHeld
      ∧ (watched 2750).link.mode = .running ∧ (watched 2750).chamber.inForce.mode = .hydrocarbon
      ∧ (watched 2750).chamber.standing.phase = some .load
      ∧ (((watched 2750).gases[(watched 2750).chamber.inForce.gas]).bind (·.lfl)) = some 11000 := by decide +kernel
/-- R138: 25 % of the 11,000 ppm of cyclopentane is 2,750 ppm. -/
theorem test_protectionScan_load :
    gives (exec .protectionScan (watched 2750)) (fun t => t.link.mode = .tripped && t.protection.causes.loadConc) = true
    ∧ gives (exec .protectionScan (watched 2749)) (fun t => t.link.mode = .running) = true := by decide +kernel
theorem test_protectionScan_clear_hold :
    gives (exec .protectionScan (toTake .protection (scanOf ⟨.valid, 1⟩) tripped))
      (fun t => t.protection.clearHold = some 5000) = true
    ∧ gives (exec .protectionScan (toTake .protection (scanOf ⟨.held, 1⟩) (clearing 0)))
      (fun t => t.protection.clearHold = none) = true := by decide +kernel

/-! ### The Probe Scanner and the Sample Stream -/

/-- A scanner that reads slot 6 of 8.9, an allocation of two cells for four values. -/
def reading : State :=
  let s := scanner89 (slots89.set 6 ⟨true, 11, 0, 4, 2, .missing, some ⟨46, 2⟩⟩)
  s.setScanner { s.scanner with inProgress := some ⟨1000, 6, 11, 0, 4, some ⟨46, 2⟩, 4⟩ }

/-- The same, with D = 10 and the scan tick 10 ticks away. -/
def readingFast : State := reading.setScanner { reading.scanner with divisor := 10, countdown := 10, markedD := false }

theorem witness_ScanTickStartsAScan :
    (∃ p, readingFast.scanner.inProgress = some p) ∧ readingFast.mayPass readingFast.scanner.countdown = true
      ∧ (scanner89 slots89).mayPass 1000 = true ∧ State.reset.mayPass 1000 = true ∧ (scanner89 slots89).scanner.inProgress = none
      ∧ (scanner89 slots89).scanner.slots[(0 : SlotNo)].enabled = true
      ∧ (scanner89 slots89).scanner.slots[(0 : SlotNo)].status ≠ .failed
      ∧ (∀ n : SlotNo, State.reset.scanner.slots[n].enabled = false ∨ State.reset.scanner.slots[n].status = .failed)
      ∧ State.reset.scanner.inProgress = none := by
  refine ⟨⟨_, rfl⟩, by decide +kernel⟩
theorem test_scanTick_starts :
    gives (exec .scanTick (scanner89 slots89))
      (fun t => t.scanner.inProgress = some ⟨1000, 0, 3, 0, 8, some ⟨0, 8⟩, 0⟩ && t.now = 1000) = true := by decide +kernel
theorem test_scanTick_overrun :
    gives (exec .scanTick readingFast) (fun t => t.link.flags.scanOverrun && t.scanner.countdown = 10
      && t.scanner.sinceStart = 10 && t.now = 10
      && (t.scanner.inProgress.map (·.read.elapsed)) = some 14) = true := by decide +kernel
/-- R150: the scan tick of tick 10 comes before the probe timeout of tick 19. -/
theorem test_probeTimeout_after_scanTick :
    gives (exec .probeTimeout readingFast) (fun t => t.now = 0 && t.scanner.inProgress.isSome) = true := by decide +kernel
theorem witness_SlotReadsEndGoodOrMissed :
    reading.scanner.inProgress = some ⟨1000, 6, 11, 0, 4, some ⟨46, 2⟩, 4⟩ ∧ reading.mayPass (23 - 4) = true
      ∧ (∀ n : SlotNo, (6 : SlotNo).val < n.val → reading.scanner.slots[n].enabled = false)
      ∧ reading.scanner.slots[(6 : SlotNo)].enabled = true ∧ 2 ≤ reading.scanner.slots[(6 : SlotNo)].misses := by
  decide +kernel
theorem test_probeReply_good :
    gives (exec (.probeReply 11 [7, 8, 9, 10] (crc16 (probeReplyCovered 11 [7, 8, 9, 10]))) reading)
      (fun t => t.scanner.slots[(6 : Nat)].status = .truncated && t.scanner.slots[(6 : Nat)].misses = 0
        && t.scanner.working[(46 : Nat)] = ⟨7, true⟩ && t.scanner.working[(47 : Nat)] = ⟨8, true⟩
        && t.toTake.length = 9) = true := by decide +kernel
theorem test_probeReply_wrong_count :
    gives (exec (.probeReply 11 [7, 8, 9] (crc16 (probeReplyCovered 11 [7, 8, 9]))) reading)
      (fun t => t.scanner.slots[(6 : Nat)].status = .failed && t.scanner.slots[(6 : Nat)].misses = 3
        && t.scanner.working[(46 : Nat)].value = 0) = true := by decide +kernel
theorem test_probeTimeout :
    gives (exec .probeTimeout reading) (fun t => t.now = 19 && t.scanner.slots[(6 : Nat)].status = .failed
      && t.link.sending = some ⟨⟨0xCB#8, 0, [6, 11, 0, 0]⟩, 0⟩) = true := by decide +kernel
theorem witness_PublicationMarksAndJudges :
    (ready.scanner.roles[(0 : RoleNo)]).binding = some 4 ∧ (ready.scanner.roles[(0 : RoleNo)]).hasBeenValid = true
      ∧ (ready.scanner.roles[(2 : RoleNo)]).binding = none ∧ 0 < ready.scanner.settlingRemaining := by decide +kernel
theorem witness_ScannerRequestsChangeTheScanner :
    running.TurnOf ⟨0x30#8, 1, leBytes 4 10⟩ ∧ max 10 (min 10 10000) ≠ running.scanner.divisor
      ∧ max 10 (min 1000 10000) = running.scanner.divisor ∧ reading.link.mode = .offline
      ∧ reading.TurnOf ⟨0x32#8, 1, []⟩ ∧ reading.scanner.slots[(6 : SlotNo)].enabled = true
      ∧ reading.TurnOf ⟨0x33#8, 1, leBytes 1 (16 : RoleNo).val ++ optional 1 ((some (47 : CellNo)).map (·.val))⟩ := by
  decide +kernel
theorem test_setScanDivisor :
    gives (exec (.setScanDivisor 1 [9, 0, 0, 0]) running)
      (fun t => t.scanner.divisor = 10 && t.scanner.countdown = 10 && t.scanner.markedD
        && (t.link.sending.map fun x => x.frame.payload) = some [0x02#8, 10, 0, 0, 0]) = true := by decide +kernel
theorem test_bindSignal :
    gives (exec (.bindSignal 1 [16, 1, 47]) State.reset) (fun t => t.scanner.roles[(16 : Nat)].binding = some 47) = true
    ∧ gives (exec (.bindSignal 1 [16, 1, 48]) State.reset) (fun t => t.scanner.roles[(16 : Nat)].binding = none) = true := by
  decide +kernel
theorem witness_SlotWritesAllocateCells :
    reading.TurnOf ⟨0x31#8, 1, (SlotOperands.mk 7 true 31 248 8).bytes⟩ ∧ 248 + 8 ≤ 256
      ∧ (reading.scanner.slots[(7 : SlotNo)]).allocation = none ∧ (reading.scanner.slots[(6 : SlotNo)]).enabled = true
      ∧ (∀ m : SlotNo, m ≠ 7 → State.reset.scanner.slots[m].enabled = false) := by decide +kernel

/-- The stream enabled for the cells 0 and 47. -/
def streaming (fifo : List SampleEntry) (threshold : Nat) : State :=
  toTake .sampleStream (scanOf ⟨.valid, 0⟩)
    (State.reset.setSample ⟨fifo, 1#48 ||| (1#48 <<< 47), true, threshold, true⟩)

theorem witness_SampleScanIsWrittenWhole :
    scanFor .sampleStream (streaming [] 1).toTake = some (scanOf ⟨.valid, 0⟩) ∧ (streaming [] 1).sample.enable = true
      ∧ (streaming [] 1).sample.set.getLsbD (47 : CellNo).val = true
      ∧ 4096 < (streaming (List.replicate 4095 ⟨0, 0, .fresh, 0⟩) 1).sample.fifo.length + 2
      ∧ (streaming (List.replicate 4094 ⟨0, 0, .fresh, 0⟩) 1).sample.fifo.length + 2 ≤ 4096 := by
  have h (n : Nat) : (streaming (List.replicate n ⟨0, 0, .fresh, 0⟩) 1).sample.fifo.length = n := List.length_replicate
  refine ⟨by decide +kernel, by decide +kernel, by decide +kernel, ?_, ?_⟩ <;> rw [h] <;> omega
theorem test_sampleScanWrite :
    gives (exec .sampleScanWrite (streaming [] 1))
      (fun t => t.sample.fifo = [⟨1, 0, .fresh, 0⟩, ⟨1, 47, .fresh, 0⟩] && !t.sample.armed
        && t.link.sending = some ⟨⟨0xCC#8, 0, [1, 0, 2, 0, 1, 0]⟩, 0⟩) = true := by decide +kernel
theorem witness_StreamIsControlledAndDrained :
    tripped.TurnOf ⟨0x38#8, 1, (StreamOperands.mk 1#48 true 4095 true).bytes⟩ ∧ (4095 : Nat) < 65536 ∧ 4095 < (4096 : Nat)
      ∧ (streaming [⟨0, 0, .fresh, 0⟩] 1).TurnOf ⟨0x39#8, 1, [64]⟩ ∧ (64#8 : Byte).toNat ≤ 64 ∧ 64 < (65#8 : Byte).toNat
      ∧ (streaming [⟨0, 0, .fresh, 0⟩] 1).sample.fifo ≠ [] ∧ (streaming [] 1).sample.fifo = [] := by decide +kernel
theorem test_streamControl :
    gives (exec (.streamControl 1 [3, 0, 0, 0, 0, 0x80, 1, 0xFF, 0x0F, 1]) (streaming [⟨0, 0, .fresh, 0⟩] 1))
      (fun t => t.sample = ⟨[], 0x800000000003#48, true, 4095, true⟩) = true
    ∧ gives (exec (.streamControl 1 [3, 0, 0, 0, 0, 0, 1, 0, 0, 1]) (streaming [⟨0, 0, .fresh, 0⟩] 1))
      (fun t => t.sample.fifo.length = 1) = true := by decide +kernel
theorem test_drainSamples :
    gives (exec (.drainSamples 1 [1]) (streaming [⟨7, 3, .unsettled, -2⟩, ⟨7, 4, .fresh, 1⟩] 1))
      (fun t => t.sample.fifo = [⟨7, 4, .fresh, 1⟩]
        && (t.link.sending.map fun x => x.frame.payload) == some [0, 1, 1, 0, 7, 0, 3, 2, 0xFE, 0xFF, 0xFF, 0xFF]) = true
    ∧ gives (exec (.drainSamples 1 [1]) (streaming [] 1)) (fun t => t.link.flags.sampleUnderflow) = true := by decide +kernel

end Sys2Proof.Tests
end

/-! # CLOSE_SHIFT (R134) -/

namespace Sys2Proof.Proofs.CloseShift
open Sys2Proof Sys2Proof.Machine

/-- R134: CLOSE_SHIFT taken in its turn. -/
theorem exec_closeShift_turn {tag : Byte} {s : State} (ht : s.TurnOf ⟨0x25#8, tag, []⟩) :
    exec (.closeShift tag []) s
      = .next ((s.takeFromQueue.setShift (.opened (nextShiftNumber s.shift.number))).sends
          (replyFrame 0x25#8 tag .done (s.shift.bytes ++ leBytes 2 (nextShiftNumber s.shift.number)))) :=
  exec_turn (h := withLayout (readNothing []) fun _ => handleCloseShift) rfl rfl ht

/-- R134: every verdict count of a shift just opened is 0. -/
theorem opened_verdicts (n : Nat) (v : Fin 5) : (Shift.opened n).verdicts[v] = 0 := by
  simp [Shift.opened]

/-- R134: every gas total of a shift just opened is 0. -/
theorem opened_totals (n : Nat) (g : GasIndex) :
    (Shift.opened n).refrigerant[g] = 0 ∧ (Shift.opened n).attributed[g] = 0 ∧ (Shift.opened n).unattributed[g] = 0 := by
  simp [Shift.opened]

/-- Settles O50: the state the reply is sent from is the one whose Shift Account is the shift just opened. -/
theorem closeShiftOpensTheNext : Obligations.CloseShiftOpensTheNext := by
  intro tag s ht
  exact ⟨s.takeFromQueue.setShift (.opened (nextShiftNumber s.shift.number)), exec_closeShift_turn ht, rfl,
    opened_verdicts _, opened_totals _, rfl, rfl, rfl, rfl, rfl⟩

end Sys2Proof.Proofs.CloseShift

/-! # Apportionment (R120, R121)

The ranking by remainder, the arithmetic of floors and remainders, and the shares. Units are named by their places
0, 1, … in load order. -/

namespace Sys2Proof.Proofs.Apportionment
open Sys2Proof Sys2Proof.Machine

/-! ### The ranking by remainder (R120) -/

section ranking
variable {rem : Nat → Nat} {n i j k left : Nat}

/-- R120: place `k` is ranked ahead of place `j`: a larger remainder, or an equal one and loaded earlier. -/
abbrev Outranks (rem : Nat → Nat) (k j : Nat) : Prop := rem j < rem k ∨ (rem j = rem k ∧ k < j)

/-- How many of the listed places are ranked ahead of place `j`. -/
def countAhead (rem : Nat → Nat) (places : List Nat) (j : Nat) : Nat := places.countP fun k => Outranks rem k j

/-- R120: how many of the first `n` places are ranked ahead of place `j`. -/
abbrev rank (rem : Nat → Nat) (n j : Nat) : Nat := countAhead rem (List.range n) j

theorem Outranks.asymm (h : Outranks rem i j) : ¬ Outranks rem j i := by
  unfold Outranks at *; omega

theorem not_outranks_self : ¬ Outranks rem j j := by
  unfold Outranks; omega

theorem not_outranks_trans (hij : ¬ Outranks rem j i) (hjk : ¬ Outranks rem k j) : ¬ Outranks rem k i := by
  unfold Outranks at *; omega

theorem outranks_of_ne (h : ¬ Outranks rem k j) (hne : j ≠ k) : Outranks rem j k := by
  unfold Outranks at *; omega

/-- R120: the first `n` places in the order of the ranking. -/
def ranking (rem : Nat → Nat) (n : Nat) : List Nat :=
  (List.range n).mergeSort fun j k => decide (¬ Outranks rem k j)

theorem ranking_perm (rem : Nat → Nat) (n : Nat) : (ranking rem n).Perm (List.range n) :=
  List.mergeSort_perm _ _

theorem ranking_pairwise (rem : Nat → Nat) (n : Nat) : (ranking rem n).Pairwise (Outranks rem) := by
  have hsorted := List.pairwise_mergeSort (le := fun j k => decide (¬ Outranks rem k j))
    (fun i j k hij hjk => decide_eq_true (not_outranks_trans (of_decide_eq_true hij) (of_decide_eq_true hjk)))
    (fun j k => ?_) (List.range n)
  · have hnodup : (ranking rem n).Nodup := (ranking_perm rem n).nodup_iff.mpr List.nodup_range
    exact hsorted.and hnodup |>.imp fun h => outranks_of_ne (of_decide_eq_true h.1) h.2
  · rw [Bool.or_eq_true, decide_eq_true_eq, decide_eq_true_eq]
    exact Decidable.or_iff_not_imp_left.mpr fun h => (Decidable.not_not.mp h).asymm

/-- In a list ordered by rank, the first has none ahead of it, and each later one has one more than in the list without
the first. -/
theorem map_countAhead_of_pairwise {places : List Nat} (h : places.Pairwise (Outranks rem)) :
    places.map (countAhead rem places) = List.range places.length := by
  induction places with
  | nil => rfl
  | cons first rest ih =>
    obtain ⟨hfirst, hrest⟩ := List.pairwise_cons.mp h
    have hhead : countAhead rem (first :: rest) first = 0 := by
      refine List.countP_eq_zero.mpr fun k hk hahead => ?_
      have hk' : Outranks rem k first := of_decide_eq_true hahead
      obtain rfl | hk := List.mem_cons.mp hk
      · exact not_outranks_self hk'
      · exact (hfirst k hk).asymm hk'
    have htail (j : Nat) (hj : j ∈ rest) : countAhead rem (first :: rest) j = Nat.succ (countAhead rem rest j) :=
      List.countP_cons_of_pos (decide_eq_true (hfirst j hj))
    rw [List.map_cons, hhead, List.map_congr_left htail, List.length_cons, List.range_succ_eq_map, ← ih hrest,
      List.map_map, Function.comp_def]

/-- Every rank is taken once. -/
theorem map_rank_perm (rem : Nat → Nat) (n : Nat) : ((List.range n).map (rank rem n)).Perm (List.range n) := by
  have hp := ranking_perm rem n
  have hrank : rank rem n = countAhead rem (ranking rem n) := funext fun j => (hp.countP_eq _).symm
  have hmap := map_countAhead_of_pairwise (ranking_pairwise rem n)
  rw [hp.length_eq, List.length_range, ← hrank] at hmap
  exact (hp.map (rank rem n)).symm.trans (.of_eq hmap)

theorem countP_lt_range (h : left ≤ n) : ((List.range n).countP fun k => k < left) = left := by
  suffices hmin : ((List.range n).countP fun k => k < left) = min left n by rw [hmin, Nat.min_eq_left h]
  clear h
  induction n with
  | zero => rw [Nat.min_zero]; rfl
  | succ n ih =>
    simp only [List.range_succ, List.countP_append, ih, List.countP_singleton, decide_eq_true_eq]
    split <;> omega

/-- R120: the first `left` units of the ranking are `left` units. -/
theorem countP_rank_lt (h : left ≤ n) : ((List.range n).countP fun j => rank rem n j < left) = left := by
  have hperm := (map_rank_perm rem n).countP_eq fun r => decide (r < left)
  rw [List.countP_map, countP_lt_range h] at hperm
  exact hperm

/-- A place without a remainder is ranked behind every place that has one. -/
theorem countP_pos_le_rank (h : rem j = 0) : ((List.range n).countP fun k => 0 < rem k) ≤ rank rem n j :=
  List.countP_mono_left fun _ _ hk => decide_eq_true (.inl (h ▸ of_decide_eq_true hk))

end ranking

/-! ### Floors and remainders (R120) -/

section division
variable {total : Nat}

/-- R120: floors and remainders make up the mass times the weights' sum. -/
theorem floors_add_remainders (mass total : Nat) (weights : List Nat) :
    total * (weights.map fun w => mass * w / total).sum + (weights.map fun w => mass * w % total).sum
      = mass * weights.sum := by
  induction weights with
  | nil => rfl
  | cons w weights ih =>
    have := Nat.div_add_mod (mass * w) total
    simp only [List.map_cons, List.sum_cons, Nat.mul_add]
    omega

/-- R120: each remainder is below the weights' sum. -/
theorem remainders_add_positive_le (mass : Nat) (hpos : 0 < total) (weights : List Nat) :
    (weights.map fun w => mass * w % total).sum + (weights.countP fun w => 0 < mass * w % total)
      ≤ total * weights.countP fun w => 0 < mass * w % total := by
  induction weights with
  | nil => exact Nat.le_refl 0
  | cons w weights ih =>
    have := Nat.mod_lt (mass * w) hpos
    simp only [List.map_cons, List.sum_cons, List.countP_cons, decide_eq_true_eq, Nat.mul_add]
    split <;> omega

theorem sum_map_add_ite (f : Nat → Nat) (p : Nat → Prop) [DecidablePred p] (places : List Nat) :
    (places.map fun k => f k + if p k then 1 else 0).sum = (places.map f).sum + places.countP fun k => p k := by
  induction places with
  | nil => rfl
  | cons k places ih =>
    simp only [List.map_cons, List.sum_cons, List.countP_cons, decide_eq_true_eq, ih]
    omega

end division

/-! ### The leftover (R120) -/

section leftover
variable {mass : Nat} {weights : List Nat}

theorem floors_le (hpos : 0 < weights.sum) : (weights.map fun w => mass * w / weights.sum).sum ≤ mass := by
  have := floors_add_remainders mass weights.sum weights
  exact Nat.le_of_mul_le_mul_left (by rw [Nat.mul_comm _ mass]; omega) hpos

/-- R120: the remainders sum to the leftover times the weights' sum. -/
theorem remainders_sum (mass : Nat) (weights : List Nat) :
    (weights.map fun w => mass * w % weights.sum).sum = leftover mass weights * weights.sum := by
  have := floors_add_remainders mass weights.sum weights
  rw [leftover, Nat.sub_mul, ← this, Nat.mul_comm weights.sum]
  exact (Nat.add_sub_cancel_left _ _).symm

/-- R120: when anything is left over, more units have a remainder than there is left over. -/
theorem leftover_lt_positive (hpos : 0 < weights.sum) (hleft : 0 < leftover mass weights) :
    leftover mass weights < weights.countP fun w => 0 < mass * w % weights.sum := by
  have hbound := remainders_add_positive_le mass hpos weights
  rw [remainders_sum, Nat.mul_comm _ weights.sum] at hbound
  have hsome := Nat.mul_pos hpos hleft
  refine Nat.lt_of_not_le fun hle => ?_
  have hmul := Nat.mul_le_mul_left weights.sum hle
  have hnone : (weights.countP fun w => 0 < mass * w % weights.sum) = 0 := by omega
  rw [hnone] at hbound
  omega

theorem leftover_lt_length (hpos : 0 < weights.sum) : leftover mass weights < weights.length := by
  obtain h | h := Nat.eq_zero_or_pos (leftover mass weights)
  · rw [h]
    exact List.length_pos_iff.mpr fun hnil => by rw [hnil] at hpos; exact Nat.lt_irrefl 0 hpos
  · exact Nat.lt_of_lt_of_le (leftover_lt_positive hpos h) List.countP_le_length

end leftover

/-! ### Weights by place -/

section places
variable {weights : List Nat} {j : Nat}

/-- The weight of the unit at a place of the load order. -/
abbrev weightAt (weights : List Nat) (k : Nat) : Nat := weights.getD k 0

theorem getElem_eq_weightAt (h : j < weights.length) : weights[j] = weightAt weights j := by
  rw [weightAt, List.getD_eq_getElem?_getD, List.getElem?_eq_getElem h, Option.getD_some]

theorem map_weightAt_range (weights : List Nat) : (List.range weights.length).map (weightAt weights) = weights := by
  refine List.ext_getElem (by rw [List.length_map, List.length_range]) fun k _ hk => ?_
  rw [List.getElem_map, List.getElem_range, getElem_eq_weightAt hk]

theorem zipIdx_eq_map_range (weights : List Nat) :
    weights.zipIdx = (List.range weights.length).map fun k => (weightAt weights k, k) := by
  refine List.ext_getElem (by rw [List.length_zipIdx, List.length_map, List.length_range]) fun k hk _ => ?_
  rw [List.length_zipIdx] at hk
  rw [List.getElem_zipIdx, List.getElem_map, List.getElem_range, getElem_eq_weightAt hk, Nat.zero_add]

theorem map_weights (f : Nat → Nat) (weights : List Nat) :
    (List.range weights.length).map (fun k => f (weightAt weights k)) = weights.map f := by
  rw [← Function.comp_def f, ← List.map_map, map_weightAt_range]

theorem countP_weights (p : Nat → Bool) (weights : List Nat) :
    ((List.range weights.length).countP fun k => p (weightAt weights k)) = weights.countP p := by
  rw [← Function.comp_def p, ← List.countP_map, map_weightAt_range]

end places

/-! ### The shares -/

section shares
variable {weights : List Nat} {mass j : Nat}

/-- R120: the remainder of the unit at a place of the load order. -/
abbrev remainderAt (mass : Nat) (weights : List Nat) (k : Nat) : Nat := mass * weightAt weights k % weights.sum

/-- R120: the model's ranking of loaded weights is the ranking of their places by remainder. -/
theorem rankedAhead_eq_decide (mass : Nat) (weights : List Nat) (k j : Nat) :
    rankedAhead mass weights.sum (weightAt weights k, k) (weightAt weights j, j)
      = decide (Outranks (remainderAt mass weights) k j) := by
  rw [rankedAhead, Bool.decide_or, Bool.decide_and, decide_eq_decide.mpr eq_comm]

/-- R120: the model's count of the units ranked ahead is the place's rank. -/
theorem length_filter_rankedAhead (mass : Nat) (weights : List Nat) (j : Nat) :
    (weights.zipIdx.filter fun x => rankedAhead mass weights.sum x (weightAt weights j, j)).length
      = rank (remainderAt mass weights) weights.length j := by
  rw [zipIdx_eq_map_range, ← List.countP_eq_length_filter, List.countP_map, Function.comp_def]
  simp only [rankedAhead_eq_decide, rank, countAhead]

/-- R120: each share by its place: the floor, and 1 mg more for the ranks below the leftover. -/
theorem sharesByWeight_eq_map_range (mass : Nat) (weights : List Nat) :
    sharesByWeight mass weights = (List.range weights.length).map fun j =>
      mass * weightAt weights j / weights.sum
        + (if rank (remainderAt mass weights) weights.length j < leftover mass weights then 1 else 0) := by
  have hmap (f : Nat × Nat → Nat) :
      weights.zipIdx.map f = (List.range weights.length).map fun k => f (weightAt weights k, k) := by
    rw [zipIdx_eq_map_range, List.map_map, Function.comp_def]
  simp only [← length_filter_rankedAhead]
  exact hmap _

/-- R120: a unit among the first of the ranking has a remainder. -/
theorem remainder_pos_of_rank_lt (hpos : 0 < weights.sum)
    (h : rank (remainderAt mass weights) weights.length j < leftover mass weights) :
    0 < remainderAt mass weights j := by
  refine Nat.pos_of_ne_zero fun hzero => ?_
  have hmany := leftover_lt_positive hpos (Nat.zero_lt_of_lt h)
  rw [← countP_weights fun w => 0 < mass * w % weights.sum] at hmany
  have hbehind := countP_pos_le_rank (n := weights.length) hzero
  exact Nat.lt_irrefl _ (Nat.lt_trans h (Nat.lt_of_lt_of_le hmany hbehind))

/-- R120: the floors and one extra for each of the first ranks sum to the mass. -/
theorem sharesByWeight_sum (hpos : 0 < weights.sum) : (sharesByWeight mass weights).sum = mass := by
  rw [sharesByWeight_eq_map_range, sum_map_add_ite, countP_rank_lt (Nat.le_of_lt (leftover_lt_length hpos)),
    map_weights fun w => mass * w / weights.sum]
  exact Nat.add_sub_cancel' (floors_le hpos)

/-- R121: the equal shares sum to the mass: the extra 1 mg goes to the first `mass % n` units. -/
theorem sharesEqually_sum {n : Nat} (hn : 0 < n) : (sharesEqually mass n).sum = mass := by
  rw [sharesEqually, sum_map_add_ite, countP_lt_range (Nat.le_of_lt (Nat.mod_lt mass hn)), List.map_const',
    List.length_range, List.sum_replicate_nat]
  exact Nat.div_add_mod mass n

theorem shares_of_pos (hpos : 0 < weights.sum) : shares mass weights = sharesByWeight mass weights :=
  if_neg (Nat.ne_of_gt hpos)

theorem shares_of_zero (hzero : weights.sum = 0) : shares mass weights = sharesEqually mass weights.length :=
  if_pos hzero

theorem shares_length (mass : Nat) (weights : List Nat) : (shares mass weights).length = weights.length := by
  obtain h | h := Nat.eq_zero_or_pos weights.sum
  · rw [shares_of_zero h, sharesEqually, List.length_map, List.length_range]
  · rw [shares_of_pos h, sharesByWeight_eq_map_range, List.length_map, List.length_range]

theorem shares_sum (mass : Nat) (hne : weights ≠ []) : (shares mass weights).sum = mass := by
  obtain h | h := Nat.eq_zero_or_pos weights.sum
  · rw [shares_of_zero h, sharesEqually_sum (List.length_pos_iff.mpr hne)]
  · rw [shares_of_pos h, sharesByWeight_sum h]

/-- R120: the share at a place. -/
theorem shares_getElem?_of_pos (hpos : 0 < weights.sum) (hj : j < weights.length) :
    (shares mass weights)[j]? = some (mass * weightAt weights j / weights.sum
      + (if rank (remainderAt mass weights) weights.length j < leftover mass weights then 1 else 0)) := by
  rw [shares_of_pos hpos, sharesByWeight_eq_map_range, List.getElem?_map, List.getElem?_range hj, Option.map_some]

/-- R121: the share at a place. -/
theorem shares_getElem?_of_zero (hzero : weights.sum = 0) (hj : j < weights.length) :
    (shares mass weights)[j]?
      = some (mass / weights.length + (if j < mass % weights.length then 1 else 0)) := by
  rw [shares_of_zero hzero, sharesEqually, List.getElem?_map, List.getElem?_range hj, Option.map_some]

/-- R120: a unit that weighs nothing has neither a floor share nor a remainder. -/
theorem shares_getElem?_of_weight_zero (hpos : 0 < weights.sum) (hj : j < weights.length)
    (hzero : weightAt weights j = 0) : (shares mass weights)[j]? = some 0 := by
  have hremainder : remainderAt mass weights j = 0 := by rw [remainderAt, hzero, Nat.mul_zero, Nat.zero_mod]
  have hlast : ¬ rank (remainderAt mass weights) weights.length j < leftover mass weights := fun h =>
    Nat.ne_of_gt (remainder_pos_of_rank_lt hpos h) hremainder
  rw [shares_getElem?_of_pos hpos hj, if_neg hlast, hzero, Nat.mul_zero, Nat.zero_div]

end shares

/-- Settles O48, from the ranking (`countP_rank_lt`) and the count of the units with a remainder
(`leftover_lt_positive`). -/
theorem sharesFollowTheRemainders : Obligations.SharesFollowTheRemainders := by
  intro mass weights hne
  refine ⟨shares_length mass weights, shares_sum mass hne, fun hpos => ?_,
    fun hzero j hj => shares_getElem?_of_zero hzero hj⟩
  simp only [← List.countP_eq_length_filter]
  refine ⟨leftover_lt_length hpos, floors_le hpos, remainders_sum mass weights, leftover_lt_positive hpos, fun j hj => ?_⟩
  rw [getElem_eq_weightAt hj]
  exact ⟨shares_getElem?_of_pos hpos hj, remainder_pos_of_rank_lt hpos, shares_getElem?_of_weight_zero hpos hj⟩

end Sys2Proof.Proofs.Apportionment

/-! # STREAM_CONTROL and DRAIN_SAMPLES (R173, R174, R177)

Each request is read back from the bytes its fields are sent as, its handling is said once for every outcome, and the request
taken in its turn follows with `exec_turn`. -/

namespace Sys2Proof.Proofs.SampleRequests
open Sys2Proof Sys2Proof.Machine

/-! ### The requests read back (11.10, R195) -/

/-- R195: an indicator at the start of what follows reads as the one written there. -/
theorem indicatorAt_here (b : Bool) (rest : List Byte) : indicatorAt (indicator b ++ rest) 0 = some b := by
  cases b <;> rfl

/-- An indicator that lies beyond the first bytes is an indicator of what follows them. -/
theorem indicatorAt_skip {a b : List Byte} {o : Nat} (h : a.length ≤ o) :
    indicatorAt (a ++ b) o = indicatorAt b (o - a.length) := by
  simp only [indicatorAt, field_skip a b o 1 h]

theorem readStream_bytes {o : StreamOperands} (ht : o.threshold < 65536) : readStream o.bytes = some o := by
  have hlength : o.bytes.length = 10 := by simp [StreamOperands.bytes]
  have happend : o.bytes
      = leBytes 6 o.set.toNat ++ (indicator o.enable ++ (leBytes 2 o.threshold ++ (indicator o.flush ++ []))) := by
    simp [StreamOperands.bytes]
  have hset : field o.bytes 0 6 = o.set.toNat := by
    rw [happend, field_here]
    exact Nat.mod_eq_of_lt o.set.isLt
  have henable : indicatorAt o.bytes 6 = some o.enable := by
    rw [happend, indicatorAt_skip (by simp)]
    exact indicatorAt_here o.enable _
  have hthreshold : field o.bytes 7 2 = o.threshold := by
    rw [happend, field_skip _ _ _ _ (by simp), field_skip _ _ _ _ (by simp), leBytes_length, indicator_length, field_here]
    exact Nat.mod_eq_of_lt ht
  have hflush : indicatorAt o.bytes 9 = some o.flush := by
    rw [happend, indicatorAt_skip (by simp), indicatorAt_skip (by simp), indicatorAt_skip (by simp)]
    exact indicatorAt_here o.flush []
  simp [readStream, ofLength, hlength, henable, hflush, hset, hthreshold]

theorem readMaximum_singleton (b : Byte) : readMaximum [b] = some b.toNat := rfl

/-! ### The handling of each request -/

/-- R173, R174: the stream after an accepted STREAM_CONTROL, field by field; the flush leaves no entry. -/
theorem control_eq (o : StreamOperands) (m : SampleStream) :
    m.control o
      = { fifo := if o.flush then [] else m.fifo, set := o.set, enable := o.enable, threshold := o.threshold
          armed := decide ((if o.flush then [] else m.fifo).length ≤ o.threshold) } := by
  cases hflush : o.flush <;> simp [SampleStream.control, SampleStream.flush, hflush]

/-- R173: a threshold outside 1 to 4,095 is refused. -/
theorem handleStream_outOfRange {o : StreamOperands} (h : o.threshold < 1 ∨ 4095 < o.threshold) (s : State) :
    handleStream o s = s.refuse .outOfRange := by
  rw [handleStream, if_pos (by simpa using h)]

/-- R173: an accepted STREAM_CONTROL. -/
theorem handleStream_inRange {o : StreamOperands} (hlow : 1 ≤ o.threshold) (hhigh : o.threshold ≤ 4095) (s : State) :
    handleStream o s = (s.setSample (s.sample.control o), ⟨.done, (s.sample.control o).controlBytes⟩) := by
  simp [handleStream, Nat.not_lt.mpr hlow, Nat.not_lt.mpr hhigh]

/-- R177: a maximum of 0 or above 64 is refused. -/
theorem handleDrain_outOfRange {most : Nat} (h : most = 0 ∨ 64 < most) (s : State) :
    handleDrain most s = s.refuse .outOfRange := by
  simp [handleDrain, h]

section accepted
variable {most : Nat} {s : State} (hlow : 1 ≤ most) (hhigh : most ≤ 64)
include hlow hhigh

/-- R177: draining an empty FIFO. -/
theorem handleDrain_empty (hfifo : s.sample.fifo = []) :
    handleDrain most s = (s.setFlag .sampleUnderflow, ⟨.done, leBytes 1 0 ++ leBytes 2 0⟩) := by
  simp [handleDrain, Nat.not_lt.mpr hlow, Nat.not_lt.mpr hhigh, hfifo]

/-- R177: draining a FIFO that holds entries. -/
theorem handleDrain_nonempty (hfifo : s.sample.fifo ≠ []) :
    handleDrain most s
      = (s.setSample (s.sample.drain most),
          ⟨.done, leBytes 1 (s.sample.fifo.take most).length ++ leBytes 2 (s.sample.fifo.drop most).length
            ++ (s.sample.fifo.take most).flatMap SampleEntry.bytes⟩) := by
  obtain ⟨x, rest, hcons⟩ := List.exists_cons_of_ne_nil hfifo
  simp [handleDrain, SampleStream.drain, Nat.not_lt.mpr hlow, Nat.not_lt.mpr hhigh, hcons]

end accepted

/-! ### The requests taken in their turn (R186, R187) -/

theorem exec_streamControl_turn {tag : Byte} {o : StreamOperands} {s : State} {t : State} {reply : Reply}
    (hturn : s.TurnOf ⟨0x38#8, tag, o.bytes⟩) (ht : o.threshold < 65536)
    (hhandle : handleStream o s.takeFromQueue = (t, reply)) :
    exec (.streamControl tag o.bytes) s = .next (t.sends (replyFrame 0x38#8 tag reply.status reply.body)) := by
  rw [exec_turn (h := withLayout (readStream o.bytes) handleStream) rfl rfl hturn, readStream_bytes ht, withLayout, hhandle]

theorem exec_drainSamples_turn {tag b : Byte} {s : State} {t : State} {reply : Reply}
    (hturn : s.TurnOf ⟨0x39#8, tag, [b]⟩) (hhandle : handleDrain b.toNat s.takeFromQueue = (t, reply)) :
    exec (.drainSamples tag [b]) s = .next (t.sends (replyFrame 0x39#8 tag reply.status reply.body)) := by
  rw [exec_turn (h := withLayout (readMaximum [b]) handleDrain) rfl rfl hturn, readMaximum_singleton, withLayout, hhandle]

/-- Settles O60: the outcomes of `handleStream` and `handleDrain`, each from the state with the request taken, whose Sample
Stream is the one before. -/
theorem streamIsControlledAndDrained : Obligations.StreamIsControlledAndDrained := by
  refine ⟨fun tag o s hturn ht => ⟨fun hout => ?_, fun hlow hhigh => ?_⟩,
    fun tag b s hturn => ⟨fun hout => ?_, fun hlow hhigh hfifo => ?_, fun hlow hhigh hfifo => ?_⟩⟩
  · exact exec_streamControl_turn hturn ht (handleStream_outOfRange hout _)
  · rw [exec_streamControl_turn hturn ht (handleStream_inRange hlow hhigh _), State.takeFromQueue_sample,
      control_eq]
    rfl
  · exact exec_drainSamples_turn hturn (handleDrain_outOfRange hout _)
  · exact exec_drainSamples_turn hturn (handleDrain_empty hlow hhigh hfifo)
  · exact exec_drainSamples_turn hturn (handleDrain_nonempty hlow hhigh hfifo)

end Sys2Proof.Proofs.SampleRequests

/-! # GO_OFFLINE (R182)

The work in flight and the outputs are said in terms of the stations at rest, the handling once for every outcome, and the
request taken in its turn follows with `exec_turn`. -/

namespace Sys2Proof.Proofs.GoOffline
open Sys2Proof Sys2Proof.Machine

/-! ### The resting line (R30, R75, R182) -/

theorem atRest_iff {x : StationState} : x.atRest = true ↔ x = .idle ∨ x = .faulted ∨ x = .locked := by
  cases x <;> simp [StationState.atRest]

/-- R30: a station at rest calls for neither of its outputs. -/
theorem outputs_of_atRest {x : StationState} (h : x.atRest = true) : x.needle = false ∧ x.evac = false := by
  obtain rfl | rfl | rfl := atRest_iff.mp h <;> exact ⟨rfl, rfl⟩

theorem mem_allStations (i : StationNo) : i ∈ allStations := by
  revert i; decide

section line
variable {s : State}

/-- R182: the three grounds that stand in the way of going offline. -/
theorem workInFlight_iff :
    s.workInFlight = true ↔
      (∃ u ∈ s.tracker.units, u.state ≠ .closed) ∨ s.chamber.standing ≠ .stopped
        ∨ ∃ i, (s.station i).state.atRest = false := by
  simp [State.workInFlight, mem_allStations, or_assoc]

/-- R182: a line with no record open, the chamber STOPPED and every station at rest has no work in flight. -/
theorem workInFlight_of_resting (hunits : ∀ u ∈ s.tracker.units, u.state = .closed)
    (hchamber : s.chamber.standing = .stopped) (hstations : ∀ i, (s.station i).state.atRest = true) :
    s.workInFlight = false := by
  rw [Bool.eq_false_iff, ne_eq, workInFlight_iff]
  rintro (⟨u, hu, hopen⟩ | hrunning | ⟨i, hbusy⟩)
  · exact hopen (hunits u hu)
  · exact hrunning hchamber
  · exact Bool.false_ne_true (hbusy.symm.trans (hstations i))

/-- R30, R75: with the chamber STOPPED and every station at rest no output is called for. -/
theorem driven_of_resting (hchamber : s.chamber.standing = .stopped)
    (hstations : ∀ i, (s.station i).state.atRest = true) : s.driven = Pins.released := by
  have hneedle (i : StationNo) := (outputs_of_atRest (hstations i)).1
  have hevac (i : StationNo) := (outputs_of_atRest (hstations i)).2
  simp only [State.driven, hneedle, hevac, hchamber]
  rfl

/-! ### The handling in each line mode -/

theorem handleGoOffline_tripped (hmode : s.link.mode = .tripped) : handleGoOffline s = s.refuse .wrongMode := by
  simp [handleGoOffline, hmode]

theorem handleGoOffline_offline (hmode : s.link.mode = .offline) : handleGoOffline s = s.refuse .ignored := by
  simp [handleGoOffline, hmode]

theorem handleGoOffline_busy (hmode : s.link.mode = .running) (hwork : s.workInFlight = true) :
    handleGoOffline s = s.refuse .wrongState := by
  simp [handleGoOffline, hmode, hwork]

theorem handleGoOffline_resting (hmode : s.link.mode = .running) (hwork : s.workInFlight = false) :
    handleGoOffline s = (s.setLink { s.link with mode := .offline }, .bare .done) := by
  simp [handleGoOffline, hmode, hwork]

end line

/-- R186, R187: GO_OFFLINE taken in its turn. -/
theorem exec_goOffline_turn {tag : Byte} {s t : State} {reply : Reply} (hturn : s.TurnOf ⟨0x3D#8, tag, []⟩)
    (hhandle : handleGoOffline s.takeFromQueue = (t, reply)) :
    exec (.goOffline tag []) s = .next (t.sends (replyFrame 0x3D#8 tag reply.status reply.body)) := by
  have hread : withLayout (readNothing []) (fun _ => handleGoOffline) s.takeFromQueue = (t, reply) := hhandle
  rw [exec_turn (h := withLayout (readNothing []) fun _ => handleGoOffline) rfl rfl hturn, hread]

/-- Settles O20: the outcomes of `handleGoOffline`, each from the state with the request taken, whose line mode and work in
flight are the ones before. -/
theorem goOfflineNeedsARestingLine : Obligations.GoOfflineNeedsARestingLine := by
  refine fun tag s hturn => ⟨fun hmode => ?_, fun hmode => ?_, fun hmode hwork => ?_,
    fun hmode hunits hchamber hstations => ?_⟩
  · exact exec_goOffline_turn hturn (handleGoOffline_tripped hmode)
  · exact exec_goOffline_turn hturn (handleGoOffline_offline hmode)
  · have hbusy : s.workInFlight = true := by
      simpa only [workInFlight_iff, ← Bool.not_eq_true, atRest_iff, not_or] using hwork
    exact exec_goOffline_turn hturn (handleGoOffline_busy hmode hbusy)
  · have hrest (i : StationNo) : (s.station i).state.atRest = true := atRest_iff.mpr (hstations i)
    have hidle : s.workInFlight = false := workInFlight_of_resting hunits hchamber hrest
    exact ⟨exec_goOffline_turn hturn (handleGoOffline_resting hmode hidle), driven_of_resting hchamber hrest⟩

end Sys2Proof.Proofs.GoOffline

/-! # What each rule leaves alone

`Differs k s t` says that `t` stands as `s` does but for the blocks named in `k`, and that the Notice Queue has only grown, within
its capacity. Every operation and every request's handling has one lemma here; later proofs take from it what a rule leaves
unchanged. -/

namespace Sys2Proof.Proofs.Frames
open Sys2Proof Sys2Proof.Machine

set_option Elab.async false

/-- The parts of the state that a rule may change. `line` is what `State.line` holds; `notices` is the Notice Queue with the
clear-on-read flags; `settings` are the station timing, the Gas Table and the arithmetic limits. -/
inductive Block where
  | tracker | stations | receivers | chamber | shift | protection | mode | scanner | sample | settings | enables | notices
  | line | pins
  deriving DecidableEq

/-- A block stands in `t` as it does in `s`. -/
def Same (b : Block) (s t : State) : Prop :=
  match b with
  | .tracker => t.tracker = s.tracker
  | .stations => t.stations = s.stations
  | .receivers => t.receiverF = s.receiverF ∧ t.receiverH = s.receiverH
  | .chamber => t.chamber = s.chamber
  | .shift => t.shift = s.shift
  | .protection => t.protection = s.protection
  | .mode => t.link.mode = s.link.mode
  | .scanner => t.scanner = s.scanner
  | .sample => t.sample = s.sample
  | .settings => t.timing = s.timing ∧ t.gases = s.gases ∧ t.deadBand = s.deadBand ∧ t.maximumBaseline = s.maximumBaseline
  | .enables => t.link.enables = s.link.enables
  | .notices => t.link.notices = s.link.notices ∧ t.link.flags = s.link.flags
  | .line => t.line = s.line
  | .pins => t.pins = s.pins

/-- At most the blocks of `k` change from `s` to `t`, and notices are only appended, never beyond the queue's capacity (R189). -/
structure Differs (k : List Block) (s t : State) : Prop where
  same : ∀ b, b ∉ k → Same b s t
  grown : s.link.notices <+: t.link.notices
  bounded : s.link.notices.length ≤ 32 → t.link.notices.length ≤ 32

section algebra
variable {k k' : List Block} {s t u : State}

theorem Same.refl (b : Block) (s : State) : Same b s s := by cases b <;> simp [Same]

theorem Same.trans {b : Block} (h : Same b s t) (h' : Same b t u) : Same b s u := by
  cases b <;> simp_all [Same]

@[refl] theorem Differs.refl (k : List Block) (s : State) : Differs k s s :=
  ⟨fun b _ => Same.refl b s, List.prefix_rfl, id⟩

/-- One change after another touches the blocks of both. -/
theorem Differs.seq (h : Differs k s t) (h' : Differs k' t u) : Differs (k ++ k') s u where
  same b hb := by
    rw [List.mem_append, not_or] at hb
    exact (h.same b hb.1).trans (h'.same b hb.2)
  grown := h.grown.trans h'.grown
  bounded := h'.bounded ∘ h.bounded

theorem Differs.within (h : Differs k s t) (hk : ∀ b ∈ k, b ∈ k' := by decide) : Differs k' s t :=
  ⟨fun b hb => h.same b fun hm => hb (hk b hm), h.grown, h.bounded⟩

/-- A fold of changes to some blocks changes only those blocks. -/
theorem Differs.foldl {α : Type} {f : State → α → State} (h : ∀ t a, Differs k t (f t a)) (xs : List α) (s : State) :
    Differs k s (xs.foldl f s) := by
  induction xs generalizing s with
  | nil => exact .refl k s
  | cons x xs ih => exact ((h s x).seq (ih _)).within (by simp)

theorem Differs.tracker (h : Differs k s t) (hb : .tracker ∉ k := by decide) : t.tracker = s.tracker := h.same _ hb
theorem Differs.stations (h : Differs k s t) (hb : .stations ∉ k := by decide) : t.stations = s.stations := h.same _ hb
theorem Differs.station (h : Differs k s t) (i : StationNo) (hb : .stations ∉ k := by decide) :
    t.station i = s.station i := by
  rw [State.station, h.stations hb]; rfl
theorem Differs.receiverF (h : Differs k s t) (hb : .receivers ∉ k := by decide) : t.receiverF = s.receiverF :=
  (h.same _ hb).1
theorem Differs.receiverH (h : Differs k s t) (hb : .receivers ∉ k := by decide) : t.receiverH = s.receiverH :=
  (h.same _ hb).2
theorem Differs.receiver (h : Differs k s t) (f : Family) (hb : .receivers ∉ k := by decide) :
    t.receiver f = s.receiver f := by
  cases f
  · exact h.receiverF hb
  · exact h.receiverH hb
theorem Differs.chamber (h : Differs k s t) (hb : .chamber ∉ k := by decide) : t.chamber = s.chamber := h.same _ hb
theorem Differs.shift (h : Differs k s t) (hb : .shift ∉ k := by decide) : t.shift = s.shift := h.same _ hb
theorem Differs.protection (h : Differs k s t) (hb : .protection ∉ k := by decide) : t.protection = s.protection :=
  h.same _ hb
theorem Differs.mode (h : Differs k s t) (hb : .mode ∉ k := by decide) : t.link.mode = s.link.mode := h.same _ hb
theorem Differs.scanner (h : Differs k s t) (hb : .scanner ∉ k := by decide) : t.scanner = s.scanner := h.same _ hb
theorem Differs.sample (h : Differs k s t) (hb : .sample ∉ k := by decide) : t.sample = s.sample := h.same _ hb
theorem Differs.timing (h : Differs k s t) (hb : .settings ∉ k := by decide) : t.timing = s.timing := (h.same _ hb).1
theorem Differs.gases (h : Differs k s t) (hb : .settings ∉ k := by decide) : t.gases = s.gases := (h.same _ hb).2.1
theorem Differs.deadBand (h : Differs k s t) (hb : .settings ∉ k := by decide) : t.deadBand = s.deadBand :=
  (h.same _ hb).2.2.1
theorem Differs.maximumBaseline (h : Differs k s t) (hb : .settings ∉ k := by decide) :
    t.maximumBaseline = s.maximumBaseline := (h.same _ hb).2.2.2
theorem Differs.enables (h : Differs k s t) (hb : .enables ∉ k := by decide) : t.link.enables = s.link.enables :=
  h.same _ hb
theorem Differs.notices (h : Differs k s t) (hb : .notices ∉ k := by decide) : t.link.notices = s.link.notices :=
  (h.same _ hb).1
theorem Differs.flags (h : Differs k s t) (hb : .notices ∉ k := by decide) : t.link.flags = s.link.flags :=
  (h.same _ hb).2
theorem Differs.line (h : Differs k s t) (hb : .line ∉ k := by decide) : t.line = s.line := h.same _ hb
theorem Differs.pins (h : Differs k s t) (hb : .pins ∉ k := by decide) : t.pins = s.pins := h.same _ hb

theorem Differs.pending (h : Differs k s t) (hb : .line ∉ k := by decide) : t.pending = s.pending :=
  congrArg Line.pending (h.line hb)
theorem Differs.now (h : Differs k s t) (hb : .line ∉ k := by decide) : t.now = s.now := congrArg Line.now (h.line hb)
theorem Differs.choices (h : Differs k s t) (hb : .line ∉ k := by decide) : t.choices = s.choices :=
  congrArg Line.choices (h.line hb)
theorem Differs.toTake (h : Differs k s t) (hb : .line ∉ k := by decide) : t.toTake = s.toTake :=
  congrArg Line.toTake (h.line hb)
theorem Differs.rx (h : Differs k s t) (hb : .line ∉ k := by decide) : t.link.rx = s.link.rx :=
  congrArg Line.rx (h.line hb)
theorem Differs.requests (h : Differs k s t) (hb : .line ∉ k := by decide) : t.link.requests = s.link.requests :=
  congrArg Line.requests (h.line hb)
theorem Differs.reply (h : Differs k s t) (hb : .line ∉ k := by decide) : t.link.reply = s.link.reply :=
  congrArg Line.reply (h.line hb)
theorem Differs.sending (h : Differs k s t) (hb : .line ∉ k := by decide) : t.link.sending = s.link.sending :=
  congrArg Line.sending (h.line hb)

/-- A state is its blocks. -/
theorem Differs.eq_with (h : Differs [.tracker, .stations, .receivers, .chamber, .shift, .protection, .mode, .notices] s t) :
    t = { s with
      tracker := t.tracker, stations := t.stations, receiverF := t.receiverF, receiverH := t.receiverH, chamber := t.chamber
      shift := t.shift, protection := t.protection, link := t.link } := by
  have hpending := h.pending; have hnow := h.now; have hchoices := h.choices; have htoTake := h.toTake
  have htiming := h.timing; have hgases := h.gases; have hdead := h.deadBand; have hmax := h.maximumBaseline
  have hscanner := h.scanner; have hsample := h.sample; have hpins := h.pins
  cases t
  simp_all

end algebra

/-! ### The replacements of one block -/

section replacements
variable {s : State}

/-- A change that leaves the Notice Queue alone is judged block by block. -/
theorem Differs.of_notices {k : List Block} {s t : State} (h : ∀ b, b ∉ k → Same b s t)
    (hn : t.link.notices = s.link.notices) : Differs k s t :=
  ⟨h, hn ▸ List.prefix_rfl, fun hs => hn ▸ hs⟩

theorem setTracker_differs {x : Tracker} : Differs [.tracker] s (s.setTracker x) :=
  .of_notices (fun b hb => by cases b <;> simp [Same] at hb ⊢) rfl
theorem setStation_differs {i : StationNo} {x : Station} : Differs [.stations] s (s.setStation i x) :=
  .of_notices (fun b hb => by cases b <;> simp [Same] at hb ⊢) rfl
theorem setReceiver_differs {f : Family} {x : Receiver} : Differs [.receivers] s (s.setReceiver f x) :=
  .of_notices (fun b hb => by cases b <;> simp [Same] at hb ⊢) (by simp)
theorem setChamber_differs {x : Chamber} : Differs [.chamber] s (s.setChamber x) :=
  .of_notices (fun b hb => by cases b <;> simp [Same] at hb ⊢) rfl
theorem setShift_differs {x : Shift} : Differs [.shift] s (s.setShift x) :=
  .of_notices (fun b hb => by cases b <;> simp [Same] at hb ⊢) rfl
theorem setProtection_differs {x : Protection} : Differs [.protection] s (s.setProtection x) :=
  .of_notices (fun b hb => by cases b <;> simp [Same] at hb ⊢) rfl
theorem setScanner_differs {x : Scanner} : Differs [.scanner] s (s.setScanner x) :=
  .of_notices (fun b hb => by cases b <;> simp [Same] at hb ⊢) rfl
theorem setSample_differs {x : SampleStream} : Differs [.sample] s (s.setSample x) :=
  .of_notices (fun b hb => by cases b <;> simp [Same] at hb ⊢) rfl
theorem setMode_differs {m : LineMode} : Differs [.mode] s (s.setLink { s.link with mode := m }) :=
  .of_notices (fun b hb => by cases b <;> simp [Same] at hb ⊢) rfl
theorem setEnables_differs {e : BitVec 13} : Differs [.enables] s (s.setLink { s.link with enables := e }) :=
  .of_notices (fun b hb => by cases b <;> simp [Same] at hb ⊢) rfl
theorem setFlags_differs {e : ReadFlags} : Differs [.notices] s (s.setLink { s.link with flags := e }) :=
  .of_notices (fun b hb => by cases b <;> simp [Same] at hb ⊢) rfl
theorem setFlag_differs {x : ReadFlag} : Differs [.notices] s (s.setFlag x) := setFlags_differs
theorem setGas_differs {g : GasIndex} {e : Option GasEntry} : Differs [.settings] s (s.setGas g e) :=
  .of_notices (fun b hb => by cases b <;> simp [Same, State.setGas, State.line] at hb ⊢) rfl
theorem setClass_differs {n : Fin 32} {e : Option ClassEntry} : Differs [.tracker] s (s.setClass n e) := setTracker_differs
theorem modifyUnit_differs {tag : Nat} {f : UnitRecord → UnitRecord} : Differs [.tracker] s (s.modifyUnit tag f) :=
  setTracker_differs
theorem freeUnit_differs {tag : Nat} : Differs [.tracker] s (s.freeUnit tag) := setTracker_differs
theorem setSlot_differs {n : SlotNo} {x : Slot} : Differs [.scanner] s (s.setSlot n x) := setScanner_differs
theorem setCharge_differs {c : Charge} : Differs [.chamber] s (s.setCharge c) := setChamber_differs

/-- R189: raising a notice changes the Notice Queue and NOTICE_LOST at most. -/
theorem raise_differs {n : Notice} : Differs [.notices] s (s.raise n) where
  same b hb := by cases b <;> simp [Same] at hb ⊢
  grown := by
    obtain ⟨_, e⟩ | ⟨_, _, e⟩ | ⟨_, _, e⟩ := s.raise_cases n
    · exact e.symm ▸ List.prefix_rfl
    · exact e.symm ▸ List.prefix_append ..
    · exact e.symm ▸ List.prefix_rfl
  bounded := s.raise_notices_length n

end replacements

/-! ### Units and stations -/

section units
variable {s : State}

theorem reportAnomaly_differs {tag : Nat} {a : Anomaly} : Differs [.tracker] s (s.reportAnomaly tag a) := setTracker_differs
theorem reportFrom_differs {u : Option Nat} {a : Anomaly} : Differs [.tracker] s (s.reportFrom u a) := by
  cases u
  · exact .refl _ _
  · exact reportAnomaly_differs
theorem reportCycleStart_differs {tag : Nat} : Differs [.tracker] s (s.reportCycleStart tag) := setTracker_differs
theorem handResult_differs {tag : Nat} {d : DegasResult} : Differs [.tracker] s (s.handResult tag d) := setTracker_differs

theorem noteStation_differs {before : Vector Station 4} {i : StationNo} : Differs [.notices] s (s.noteStation before i) := by
  unfold State.noteStation; dsimp only; split
  · exact .refl _ _
  · exact raise_differs
theorem noteStations_differs {before : Vector Station 4} : Differs [.notices] s (s.noteStations before) :=
  .foldl (fun _ _ => noteStation_differs) _ s

theorem entryCheck_differs {i : StationNo} : Differs [.stations] s (s.entryCheck i) := setStation_differs
theorem handCause_differs {c : Causes} {f : Family} {i : StationNo} : Differs [.stations] s (s.handCause c f i) := by
  unfold State.handCause; dsimp only; split
  · exact setStation_differs
  · exact .refl _ _
theorem handCauseToAll_differs {c : Causes} {f : Family} : Differs [.stations] s (s.handCauseToAll c f) :=
  .foldl (fun _ _ => handCause_differs) _ s
theorem removeCause_differs {c : Causes} {i : StationNo} : Differs [.stations] s (s.removeCause c i) := by
  unfold State.removeCause; dsimp only; repeat' split
  · exact (setStation_differs.seq entryCheck_differs).within
  · exact setStation_differs
  · exact .refl _ _
theorem removeReceiverCause_differs {f : Family} : Differs [.stations] s (s.removeReceiverCause f) :=
  .foldl (fun _ _ => by
    split
    · exact removeCause_differs
    · exact .refl _ _) _ s
theorem removeTripCause_differs : Differs [.stations] s s.removeTripCause := .foldl (fun _ _ => removeCause_differs) _ s
theorem releaseWith_differs {i : StationNo} {a : Anomaly} : Differs [.tracker, .stations] s (s.releaseWith i a) :=
  (reportFrom_differs.seq setStation_differs).within
theorem assign_differs {tag : Nat} {i : StationNo} : Differs [.tracker, .stations, .notices] s (s.assign tag i) :=
  (((setTracker_differs.seq modifyUnit_differs).seq setStation_differs).seq raise_differs).within
theorem assignUpTo_differs {n : Nat} : Differs [.tracker, .stations, .notices] s (s.assignUpTo n) := by
  induction n generalizing s with
  | zero => exact .refl _ _
  | succ n ih =>
    unfold State.assignUpTo; split
    · exact .refl _ _
    · exact (assign_differs.seq ih).within
theorem arbiterPass_differs : Differs [.tracker, .stations, .notices] s s.arbiterPass := by
  unfold State.arbiterPass; split
  · exact assignUpTo_differs
  · exact .refl _ _

end units

/-! ### The chamber, closures and the trip -/

section chamber
variable {s : State}

theorem loadUnits_differs {tags : List Nat} {n : Nat} : Differs [.tracker] s (s.loadUnits tags n) := setTracker_differs
theorem applySettings_differs : Differs [.chamber, .notices] s s.applySettings := by
  unfold State.applySettings; dsimp only; split
  · exact (setChamber_differs.seq raise_differs).within
  · exact setChamber_differs.within
theorem boundary_differs : Differs [.tracker, .chamber, .notices] s s.boundary :=
  (((applySettings_differs.seq loadUnits_differs).seq setChamber_differs).seq raise_differs).within
theorem mismatchReport_differs {tag : Nat} : Differs [.chamber, .notices] s (s.mismatchReport tag) := by
  unfold State.mismatchReport; repeat' split
  · exact .refl _ _
  · exact .refl _ _
  · exact .refl _ _
  · exact (setChamber_differs.seq raise_differs).within
theorem waitingDecision_differs : Differs [.tracker, .chamber, .notices] s s.waitingDecision := by
  unfold State.waitingDecision; repeat' split
  · exact boundary_differs
  · exact .refl _ _
  · exact boundary_differs
  · exact mismatchReport_differs.within
  · exact .refl _ _
theorem joinShredQueue_differs {tag : Nat} : Differs [.tracker, .chamber, .notices] s (s.joinShredQueue tag) := by
  unfold State.joinShredQueue; dsimp only; split
  · exact (setTracker_differs.seq waitingDecision_differs).within
  · exact setTracker_differs.within
theorem leaveShredQueue_differs {tag : Nat} : Differs [.tracker, .chamber, .notices] s (s.leaveShredQueue tag) := by
  unfold State.leaveShredQueue; dsimp only; split
  · exact (setTracker_differs.seq waitingDecision_differs).within
  · exact setTracker_differs.within
theorem closeUnit_differs {r : ChargeRecord} {x : Nat × Nat} : Differs [.tracker, .shift, .notices] s (s.closeUnit r x) := by
  unfold State.closeUnit; split
  · exact .refl _ _
  · split
    · exact (((modifyUnit_differs.seq setTracker_differs).seq setShift_differs).seq raise_differs).within
    · exact .refl _ _
theorem closeUnits_differs {r : ChargeRecord} {xs : List (Nat × Nat)} :
    Differs [.tracker, .shift, .notices] s (s.closeUnits r xs) := .foldl (fun _ _ => closeUnit_differs) xs s
theorem endCharge_differs {b : Bool} {c : Charge} : Differs [.tracker, .chamber, .shift, .notices] s (s.endCharge b c) :=
  ((((setChamber_differs.seq setShift_differs).seq closeUnits_differs).seq setChamber_differs).seq raise_differs).within
theorem endNormally_differs {c : Charge} : Differs [.tracker, .chamber, .shift, .notices] s (s.endNormally c) := by
  unfold State.endNormally; dsimp only; split
  · exact (endCharge_differs.seq setChamber_differs).within
  · exact ((endCharge_differs.seq setChamber_differs).seq waitingDecision_differs).within
theorem haltChamber_differs : Differs [.tracker, .chamber, .shift, .notices] s s.haltChamber := by
  unfold State.haltChamber; dsimp only; split
  · exact (endCharge_differs.seq setChamber_differs).within
  · exact setChamber_differs.within
theorem tripEntry_differs {a : TripCauses} :
    Differs [.tracker, .stations, .chamber, .shift, .protection, .mode, .notices] s (s.tripEntry a) :=
  ((((((setMode_differs.seq setProtection_differs).seq setShift_differs).seq raise_differs).seq haltChamber_differs).seq
    handCauseToAll_differs).seq noteStations_differs).within
theorem joinCauses_differs {a : TripCauses} : Differs [.protection, .notices] s (s.joinCauses a) := by
  unfold State.joinCauses; dsimp only; split
  · exact (setProtection_differs.seq raise_differs).within
  · exact setProtection_differs.within
theorem addCauses_differs {a : TripCauses} :
    Differs [.tracker, .stations, .chamber, .shift, .protection, .mode, .notices] s (s.addCauses a) := by
  unfold State.addCauses; repeat' split
  · exact .refl _ _
  · exact tripEntry_differs
  · exact joinCauses_differs.within

end chamber

/-! ### Published scans at their consumers, and the stations' timed ends -/

section scans
variable {s : State}

theorem unitRemoved_differs {tag : Nat} : Differs [.tracker, .chamber, .notices] s (s.unitRemoved tag) := by
  unfold State.unitRemoved; repeat' split
  · exact .refl _ _
  · exact (modifyUnit_differs.seq joinShredQueue_differs).within
  · exact .refl _ _
theorem unitPulled_differs {tag : Nat} {d : DegasResult} : Differs [.tracker, .chamber, .notices] s (s.unitPulled tag d) := by
  unfold State.unitPulled; repeat' split
  · exact .refl _ _
  · exact (modifyUnit_differs.seq joinShredQueue_differs).within
  · exact .refl _ _

/-- What is done for the unit that a station holds, if it holds one. -/
theorem Differs.ofUnit {k : List Block} {o : Option Nat} {f : Nat → State} (h : ∀ n, Differs k s (f n)) :
    Differs k s (match o with
      | none => s
      | some n => f n) := by
  cases o
  · exact .refl _ _
  · exact h _

theorem removeAppliance_differs {i : StationNo} :
    Differs [.tracker, .stations, .chamber, .notices] s (s.removeAppliance i) := by
  unfold State.removeAppliance; extract_lets t st
  have ht : Differs [.tracker, .chamber, .notices] s t := .ofUnit fun _ => unitRemoved_differs
  split
  · exact ((ht.seq setStation_differs).seq arbiterPass_differs).within
  · exact (ht.seq setStation_differs).within
theorem pull_differs {i : StationNo} : Differs [.tracker, .stations, .chamber, .notices] s (s.pull i) :=
  ((reportFrom_differs.seq (.ofUnit fun _ => unitPulled_differs)).seq setStation_differs).within
theorem loseSignal_differs {i : StationNo} : Differs [.tracker, .stations] s (s.loseSignal i) :=
  (reportFrom_differs.seq setStation_differs).within
theorem arrive_differs {i : StationNo} {x : Scan} : Differs [.tracker, .stations] s (s.arrive i x) := by
  unfold State.arrive; extract_lets t u
  have hu : Differs [.stations, .tracker] s u := setStation_differs.seq (.ofUnit fun _ => reportCycleStart_differs)
  split
  · exact (hu.seq loseSignal_differs).within
  · exact hu.within
theorem deliver_differs {f : Option Family} {n : Nat} : Differs [.receivers] s (s.deliver f n) := by
  cases f
  · exact .refl _ _
  · exact setReceiver_differs
theorem evacuate_differs {i : StationNo} {x : Scan} : Differs [.stations, .receivers] s (s.evacuate i x) :=
  (setStation_differs.seq deliver_differs).within
theorem runCycle_differs {i : StationNo} {x : Scan} : Differs [.tracker, .stations, .receivers] s (s.runCycle i x) := by
  unfold State.runCycle; dsimp only; repeat' split
  all_goals first
    | exact loseSignal_differs.within
    | exact setStation_differs.within
    | exact evacuate_differs.within
    | exact .refl _ _
theorem presenceRise_differs {i : StationNo} {x : Scan} :
    Differs [.tracker, .stations, .receivers, .notices] s (s.presenceRise i x) := by
  unfold State.presenceRise; split
  · exact arrive_differs.within
  · exact raise_differs.within
  · exact raise_differs.within
  · exact raise_differs.within
  · exact runCycle_differs.within
theorem fallInCycle_differs {i : StationNo} {x : Scan} :
    Differs [.tracker, .stations, .chamber, .notices] s (s.fallInCycle i x) := by
  unfold State.fallInCycle; split
  · exact (loseSignal_differs.seq pull_differs).within
  · exact pull_differs
theorem presenceFall_differs {i : StationNo} {x : Scan} :
    Differs [.tracker, .stations, .chamber, .notices] s (s.presenceFall i x) := by
  unfold State.presenceFall; split
  · exact removeAppliance_differs
  · exact fallInCycle_differs
  · exact fallInCycle_differs
  · exact fallInCycle_differs
  · exact fallInCycle_differs
  · exact pull_differs
  · exact .refl _ _
theorem stationScan_differs {i : StationNo} {x : Scan} :
    Differs [.tracker, .stations, .receivers, .chamber, .notices] s (s.stationScan i x) := by
  unfold State.stationScan; dsimp only; split
  · exact ((setStation_differs.seq presenceRise_differs).seq noteStations_differs).within
  · exact ((setStation_differs.seq presenceFall_differs).seq noteStations_differs).within
  · exact ((setStation_differs.seq runCycle_differs).seq noteStations_differs).within
theorem detectFill_differs {f : Family} : Differs [.stations, .receivers, .notices] s (s.detectFill f) := by
  unfold State.detectFill; dsimp only; repeat' split
  · exact (((setReceiver_differs.seq handCauseToAll_differs).seq noteStations_differs).seq raise_differs).within
  · exact .refl _ _
  · exact .refl _ _
theorem receiverScan_differs {f : Family} {x : Scan} :
    Differs [.stations, .receivers, .notices] s (s.receiverScan f x) :=
  (setReceiver_differs.seq detectFill_differs).within
theorem measureHold_differs {x : Scan} : Differs [.protection] s (s.measureHold x) := by
  unfold State.measureHold; split
  · exact setProtection_differs
  · exact .refl _ _
theorem protectionScan_differs {x : Scan} :
    Differs [.tracker, .stations, .chamber, .shift, .protection, .mode, .notices] s (s.protectionScan x) :=
  (measureHold_differs.seq addCauses_differs).within
theorem loadScan_differs {c : Charge} {x : Scan} : Differs [.chamber] s (s.loadScan c x) := by
  unfold State.loadScan; dsimp only; repeat' split
  all_goals exact setCharge_differs
theorem windowScan_differs {c : Charge} : Differs [.chamber] s (s.windowScan c) := by
  unfold State.windowScan; dsimp only; split
  all_goals exact setCharge_differs
theorem ventScan_differs {c : Charge} {x : Scan} : Differs [.tracker, .chamber, .shift, .notices] s (s.ventScan x c) := by
  unfold State.ventScan; split
  · exact endNormally_differs
  · exact setCharge_differs.within
theorem integrateThen_differs {c : Charge} {x : Scan} {next : Charge → State → State}
    (h : ∀ d, Differs [.tracker, .chamber, .shift, .notices] s (next d s)) :
    Differs [.tracker, .stations, .chamber, .shift, .protection, .mode, .notices] s (s.integrateThen c x next) := by
  unfold State.integrateThen; split
  · exact (setCharge_differs.seq addCauses_differs).within
  · exact (h _).within
theorem tailScan_differs {c : Charge} {x : Scan} :
    Differs [.tracker, .stations, .chamber, .shift, .protection, .mode, .notices] s (s.tailScan c x) := by
  unfold State.tailScan; dsimp only; repeat' split
  · exact (setCharge_differs.seq addCauses_differs).within
  · exact endNormally_differs.within
  · exact setCharge_differs.within
  · exact setCharge_differs.within
theorem chamberScan_differs {x : Scan} :
    Differs [.tracker, .stations, .chamber, .shift, .protection, .mode, .notices] s (s.chamberScan x) := by
  unfold State.chamberScan; repeat' split
  · exact loadScan_differs.within
  · exact setCharge_differs.within
  · exact integrateThen_differs fun _ => windowScan_differs.within
  · exact tailScan_differs
  · exact integrateThen_differs fun _ => ventScan_differs
  · exact .refl _ _
theorem testThreshold_differs {n : Nat} : Differs [.sample, .notices] s (s.testThreshold n) := by
  unfold State.testThreshold; dsimp only; split
  · exact (setSample_differs.seq raise_differs).within
  · exact .refl _ _
theorem writeScan_differs {x : Scan} : Differs [.sample, .notices] s (s.writeScan x) := by
  unfold State.writeScan; dsimp only; repeat' split
  · exact .refl _ _
  · exact (setSample_differs.seq testThreshold_differs).within
  · exact setFlag_differs.within
theorem pierceEnd_differs {i : StationNo} : Differs [.tracker, .stations] s (s.pierceEnd i) := by
  unfold State.pierceEnd; split
  · exact releaseWith_differs
  · exact (setStation_differs.seq entryCheck_differs).within
theorem holdEnd_differs {i : StationNo} : Differs [.tracker, .stations] s (s.holdEnd i) := by
  unfold State.holdEnd; dsimp only; repeat' split
  · exact ((setStation_differs.seq setStation_differs).seq entryCheck_differs).within
  · exact (setStation_differs.seq releaseWith_differs).within
  · exact (setStation_differs.seq setStation_differs).within
theorem releaseEnd_differs {i : StationNo} : Differs [.tracker, .stations] s (s.releaseEnd i) :=
  (Differs.ofUnit (fun _ => handResult_differs) |>.seq setStation_differs).within

end scans

/-! ### Requests handled by their owners -/

section requests
variable {s : State}

theorem createUnit_differs {o : AdmitOperands} {b : Bool} : Differs [.tracker, .chamber, .notices] s (s.createUnit o b) := by
  unfold State.createUnit; dsimp only; split
  · exact (setTracker_differs.seq setTracker_differs).within
  · exact (setTracker_differs.seq joinShredQueue_differs).within
theorem releaseStation_differs {u : UnitRecord} : Differs [.stations] s (s.releaseStation u) := by
  unfold State.releaseStation; split
  · exact .refl _ _
  · exact setStation_differs
theorem returnToService_differs {i : StationNo} : Differs [.tracker, .stations, .notices] s (s.returnToService i) :=
  (setStation_differs.seq arbiterPass_differs).within
theorem beginCylinder_differs {f : Family} {c : Cylinder} :
    Differs [.tracker, .stations, .receivers, .notices] s (s.beginCylinder f c) :=
  (((((setReceiver_differs.seq removeReceiverCause_differs).seq noteStations_differs).seq raise_differs).seq
    arbiterPass_differs).seq noteStations_differs).within
theorem clearChamber_differs : Differs [.chamber] s s.clearChamber := by
  unfold State.clearChamber; split
  · exact setChamber_differs
  · exact .refl _ _
theorem clearTrip_differs : Differs [.tracker, .stations, .chamber, .protection, .mode, .notices] s s.clearTrip :=
  (((((((setProtection_differs.seq setMode_differs).seq clearChamber_differs).seq removeTripCause_differs).seq
    noteStations_differs).seq raise_differs).seq arbiterPass_differs).seq noteStations_differs).within
theorem goOnline_differs : Differs [.tracker, .stations, .mode, .notices] s s.goOnline :=
  ((setMode_differs.seq arbiterPass_differs).seq noteStations_differs).within
theorem doneWith_differs {k : List Block} {t : State} (h : Differs k s t) : Differs (k ++ [.notices]) s (doneWith s t).1 :=
  h.seq noteStations_differs

/-- R183: what the blocks' own rules of a LINE_RESTART touch. -/
theorem lineRestart_differs :
    Differs [.tracker, .stations, .chamber, .shift, .protection, .mode, .sample, .notices] s s.lineRestart := by
  have hblocks : Differs [.tracker, .stations, .chamber, .shift, .protection, .mode, .sample] s
      { s with
        link := { s.link with mode := .offline }
        tracker := s.tracker.restart
        stations := Vector.ofFn fun i : StationNo => (s.station i).restart
        chamber := s.chamber.restart
        shift := { s.shift with abandoned := s.shift.abandoned + s.tracker.abandoned }
        protection := { s.protection with causes := .empty, clearHold := none }
        sample := s.sample.restart } :=
    .of_notices (fun b hb => by cases b <;> simp [Same, State.line] at hb ⊢) rfl
  exact (hblocks.seq noteStations_differs).within

/-- The blocks that the handling of a request may change. -/
def touched (i : Instr) : List Block :=
  match i with
  | .admitUnit .. | .withdrawUnit .. => [.tracker, .stations, .chamber, .notices]
  | .takeClosed .. | .setClassEntry .. => [.tracker]
  | .suspendStation .. | .resumeStation .. | .lockStation .. => [.stations, .notices]
  | .abortStation .. | .unlockStation .. | .resetStation .. => [.tracker, .stations, .notices]
  | .setStationTiming .. | .setGasEntry .. | .setArithmeticLimits .. => [.settings]
  | .beginSwap .. => [.receivers, .notices]
  | .endSwap .. => [.tracker, .stations, .receivers, .notices]
  | .setFillLimit .. => [.receivers]
  | .stageChamberSettings .. | .startChamber .. => [.tracker, .chamber, .notices]
  | .stopChamber .. | .setChamberLimits .. => [.chamber]
  | .closeShift .. => [.shift]
  | .setProtectionLimits .. => [.protection]
  | .emergencyTrip .. => [.tracker, .stations, .chamber, .shift, .protection, .mode, .notices]
  | .clearTrip .. => [.tracker, .stations, .chamber, .protection, .mode, .notices]
  | .setScanDivisor .. | .setScanSlot .. | .scannerReset .. | .bindSignal .. | .setSignalLimits .. => [.scanner]
  | .streamControl .. => [.sample]
  | .drainSamples .. => [.sample, .notices]
  | .setNoticeEnables .. => [.enables]
  | .goOnline .. => [.tracker, .stations, .mode, .notices]
  | .goOffline .. => [.mode]
  | .lineRestart .. => [.tracker, .stations, .chamber, .shift, .protection, .mode, .sample, .notices]
  | .queryStatus .. => [.notices]
  | _ => []

theorem handleAdmit_differs {o : AdmitOperands} : Differs [.tracker, .stations, .chamber, .notices] s (handleAdmit o s).1 := by
  unfold handleAdmit; repeat' split
  all_goals first
    | exact .refl _ _
    | exact ((createUnit_differs.seq arbiterPass_differs).seq noteStations_differs).within
theorem handleWithdraw_differs {n : Nat} : Differs [.tracker, .stations, .chamber, .notices] s (handleWithdraw n s).1 := by
  unfold handleWithdraw; repeat' split
  · exact .refl _ _
  · exact (setTracker_differs.seq freeUnit_differs).within
  · exact (((releaseStation_differs.seq freeUnit_differs).seq arbiterPass_differs).seq noteStations_differs).within
  · exact (freeUnit_differs.seq leaveShredQueue_differs).within
  · exact .refl _ _
theorem handleQueryUnit_differs {n : Nat} : Differs [] s (handleQueryUnit n s).1 := by
  unfold handleQueryUnit; split <;> exact .refl _ _
theorem handleTakeClosed_differs : Differs [.tracker] s (handleTakeClosed s).1 := setTracker_differs
theorem handleSetClass_differs {o : Nat × Option ClassOperands} : Differs [.tracker] s (handleSetClass o s).1 := by
  unfold handleSetClass; repeat' split
  all_goals first
    | exact .refl _ _
    | exact setClass_differs
theorem handleSuspend_differs {i : StationNo} : Differs [.stations, .notices] s (handleSuspend i s).1 := by
  unfold handleSuspend; dsimp only; repeat' split
  all_goals first
    | exact .refl _ _
    | exact doneWith_differs setStation_differs
theorem handleResume_differs {i : StationNo} : Differs [.stations, .notices] s (handleResume i s).1 := by
  unfold handleResume; repeat' split
  all_goals first
    | exact .refl _ _
    | exact doneWith_differs removeCause_differs
theorem handleAbort_differs {i : StationNo} : Differs [.tracker, .stations, .notices] s (handleAbort i s).1 := by
  unfold handleAbort; split
  all_goals first
    | exact .refl _ _
    | exact doneWith_differs releaseWith_differs
theorem handleLock_differs {i : StationNo} : Differs [.stations, .notices] s (handleLock i s).1 := by
  unfold handleLock; split
  all_goals first
    | exact .refl _ _
    | exact doneWith_differs setStation_differs
theorem handleUnlock_differs {i : StationNo} : Differs [.tracker, .stations, .notices] s (handleUnlock i s).1 := by
  unfold handleUnlock; repeat' split
  · exact .refl _ _
  · exact (doneWith_differs returnToService_differs).within
  · exact .refl _ _
theorem handleReset_differs {i : StationNo} : Differs [.tracker, .stations, .notices] s (handleReset i s).1 := by
  unfold handleReset; split
  · exact (doneWith_differs returnToService_differs).within
  · exact .refl _ _
theorem handleSetTiming_differs {x : StationTiming} : Differs [.settings] s (handleSetTiming x s).1 := by
  unfold handleSetTiming; repeat' split
  · exact .refl _ _
  · exact .refl _ _
  · exact .of_notices (fun b hb => by cases b <;> simp [Same, State.line] at hb ⊢) rfl
theorem handleReadTrace_differs {o : Nat × Nat × Nat} : Differs [] s (handleReadTrace o s).1 := by
  unfold handleReadTrace; dsimp only; repeat' split
  all_goals exact .refl _ _
theorem handleBeginSwap_differs {f : Family} : Differs [.receivers, .notices] s (handleBeginSwap f s).1 := by
  unfold handleBeginSwap; dsimp only; repeat' split
  · exact .refl _ _
  · exact .refl _ _
  · exact (setReceiver_differs.seq raise_differs).within
theorem handleEndSwap_differs {o : Family × Nat} :
    Differs [.tracker, .stations, .receivers, .notices] s (handleEndSwap o s).1 := by
  unfold handleEndSwap; dsimp only; repeat' split
  all_goals first
    | exact .refl _ _
    | exact beginCylinder_differs
theorem handleSetFillLimit_differs {o : Family × Nat} : Differs [.receivers] s (handleSetFillLimit o s).1 := by
  unfold handleSetFillLimit; repeat' split
  · exact .refl _ _
  · exact .refl _ _
  · exact setReceiver_differs
theorem handleStage_differs {o : SettingsOperands} : Differs [.tracker, .chamber, .notices] s (handleStage o s).1 := by
  unfold handleStage; repeat' split
  · exact .refl _ _
  · exact .refl _ _
  · exact (setChamber_differs.seq waitingDecision_differs).within
  · exact .refl _ _
theorem handleStart_differs : Differs [.tracker, .chamber, .notices] s (handleStart s).1 := by
  unfold handleStart; repeat' split
  · exact .refl _ _
  · exact (setChamber_differs.seq boundary_differs).within
  · exact .refl _ _
  · exact .refl _ _
theorem handleStop_differs : Differs [.chamber] s (handleStop s).1 := by
  unfold handleStop; repeat' split
  all_goals first
    | exact .refl _ _
    | exact setChamber_differs
theorem handleSetChamberLimits_differs {l : ChamberLimits} : Differs [.chamber] s (handleSetChamberLimits l s).1 := by
  unfold handleSetChamberLimits; repeat' split
  · exact .refl _ _
  · exact .refl _ _
  · exact setChamber_differs
theorem handleReadCharge_differs {n : Nat} : Differs [] s (handleReadCharge n s).1 := by
  unfold handleReadCharge; split <;> exact .refl _ _
theorem handleSetGas_differs {o : Nat × Option GasOperands} : Differs [.settings] s (handleSetGas o s).1 := by
  unfold handleSetGas; repeat' split
  all_goals first
    | exact .refl _ _
    | exact setGas_differs
theorem handleSetArithmetic_differs {o : Nat × Nat} : Differs [.settings] s (handleSetArithmetic o s).1 := by
  unfold handleSetArithmetic; repeat' split
  · exact .refl _ _
  · exact .refl _ _
  · exact .of_notices (fun b hb => by cases b <;> simp [Same, State.line] at hb ⊢) rfl
theorem handleSetProtection_differs {l : ProtectionLimits} : Differs [.protection] s (handleSetProtection l s).1 := by
  unfold handleSetProtection; repeat' split
  · exact .refl _ _
  · exact .refl _ _
  · exact setProtection_differs
theorem handleEmergencyTrip_differs :
    Differs [.tracker, .stations, .chamber, .shift, .protection, .mode, .notices] s (handleEmergencyTrip s).1 := by
  unfold handleEmergencyTrip; repeat' split
  · exact addCauses_differs (a := .ofRequested)
  · exact .refl _ _
  · exact joinCauses_differs.within
theorem handleClearTrip_differs :
    Differs [.tracker, .stations, .chamber, .protection, .mode, .notices] s (handleClearTrip s).1 := by
  unfold handleClearTrip; repeat' split
  all_goals first
    | exact .refl _ _
    | exact clearTrip_differs
theorem handleSetDivisor_differs {n : Nat} : Differs [.scanner] s (handleSetDivisor n s).1 := by
  unfold handleSetDivisor; dsimp only; split
  · exact .refl _ _
  · exact setScanner_differs
theorem handleSetSlot_differs {o : SlotOperands} : Differs [.scanner] s (handleSetSlot o s).1 := by
  unfold handleSetSlot; repeat' split
  all_goals first
    | exact .refl _ _
    | exact setScanner_differs
theorem handleScannerReset_differs : Differs [.scanner] s (handleScannerReset s).1 := by
  unfold handleScannerReset; split
  · exact .refl _ _
  · exact setScanner_differs
theorem handleBind_differs {o : RoleNo × Option Nat} : Differs [.scanner] s (handleBind o s).1 := by
  unfold handleBind; repeat' split
  all_goals first
    | exact .refl _ _
    | exact setScanner_differs
theorem handleSetSignalLimits_differs {o : Nat × Nat} : Differs [.scanner] s (handleSetSignalLimits o s).1 := by
  unfold handleSetSignalLimits; repeat' split
  · exact .refl _ _
  · exact .refl _ _
  · exact setScanner_differs
theorem handleStream_differs {o : StreamOperands} : Differs [.sample] s (handleStream o s).1 := by
  unfold handleStream; split
  · exact .refl _ _
  · exact setSample_differs
theorem handleDrain_differs {n : Nat} : Differs [.sample, .notices] s (handleDrain n s).1 := by
  unfold handleDrain; repeat' split
  · exact .refl _ _
  · exact setFlag_differs.within
  · exact setSample_differs.within
theorem handleGoOnline_differs : Differs [.tracker, .stations, .mode, .notices] s (handleGoOnline s).1 := by
  unfold handleGoOnline; repeat' split
  all_goals first
    | exact .refl _ _
    | exact goOnline_differs
theorem handleGoOffline_differs : Differs [.mode] s (handleGoOffline s).1 := by
  unfold handleGoOffline; repeat' split
  all_goals first
    | exact .refl _ _
    | exact setMode_differs

theorem withLayout_differs {α : Type} {k : List Block} {o : Option α} {h : α → State → State × Reply}
    (hk : ∀ a, Differs k s (h a s).1) : Differs k s (withLayout o h s).1 := by
  cases o with
  | none => exact .refl _ _
  | some a => exact hk a

theorem onStation_differs {k : List Block} {n : Nat} {h : StationNo → State → State × Reply}
    (hk : ∀ i, Differs k s (h i s).1) : Differs k s (onStation n h s).1 := by
  unfold onStation; split
  · exact .refl _ _
  · exact hk _

/-- R186: what the handling of each request leaves alone. -/
theorem handler_differs {i : Instr} {h : State → State × Reply} (e : handlerOf i = some h) (s : State) :
    Differs (touched i) s (h s).1 := by
  cases i <;> simp only [handlerOf, Option.some.injEq, reduceCtorEq] at e <;> subst e <;>
    refine withLayout_differs fun a => ?_
  case admitUnit => exact handleAdmit_differs
  case withdrawUnit => exact handleWithdraw_differs
  case queryUnit => exact handleQueryUnit_differs
  case takeClosed => exact handleTakeClosed_differs
  case setClassEntry => exact handleSetClass_differs
  case suspendStation => exact onStation_differs fun _ => handleSuspend_differs
  case resumeStation => exact onStation_differs fun _ => handleResume_differs
  case abortStation => exact onStation_differs fun _ => handleAbort_differs
  case lockStation => exact onStation_differs fun _ => handleLock_differs
  case unlockStation => exact onStation_differs fun _ => handleUnlock_differs
  case resetStation => exact onStation_differs fun _ => handleReset_differs
  case setStationTiming => exact handleSetTiming_differs
  case readTrace => exact handleReadTrace_differs
  case beginSwap => exact handleBeginSwap_differs
  case endSwap => exact handleEndSwap_differs
  case setFillLimit => exact handleSetFillLimit_differs
  case stageChamberSettings => exact handleStage_differs
  case startChamber => exact handleStart_differs
  case stopChamber => exact handleStop_differs
  case setChamberLimits => exact handleSetChamberLimits_differs
  case readCharge => exact handleReadCharge_differs
  case setGasEntry => exact handleSetGas_differs
  case setArithmeticLimits => exact handleSetArithmetic_differs
  case closeShift => exact setShift_differs
  case setProtectionLimits => exact handleSetProtection_differs
  case emergencyTrip => exact handleEmergencyTrip_differs
  case clearTrip => exact handleClearTrip_differs
  case setScanDivisor => exact handleSetDivisor_differs
  case setScanSlot => exact handleSetSlot_differs
  case scannerReset => exact handleScannerReset_differs
  case bindSignal => exact handleBind_differs
  case setSignalLimits => exact handleSetSignalLimits_differs
  case streamControl => exact handleStream_differs
  case drainSamples => exact handleDrain_differs
  case setNoticeEnables => exact setEnables_differs
  case goOnline => exact handleGoOnline_differs
  case goOffline => exact handleGoOffline_differs
  case lineRestart => exact lineRestart_differs
  case queryStatus => exact setFlags_differs
  all_goals exact .refl _ _

end requests

end Sys2Proof.Proofs.Frames

/-! # What a step can do

Every command either receives a request, or is one of the part's events followed by the end of the command. `Kept P` lists what an
invariant has to survive, one action of the part at a time, and `Kept.step` puts them together: an invariant that survives each
action survives every step. -/

namespace Sys2Proof.Proofs.Steps
open Sys2Proof Sys2Proof.Machine Sys2Proof.Proofs.Frames

set_option Elab.async false

/-! ### The commands -/

/-- R160: a consumer acts on the oldest published scan it has not taken, if there is one. -/
def taken (c : Consumer) (act : Scan → State → State) (s : State) : State :=
  match scanFor c s.toTake with
  | none => s
  | some x => act x (s.taking c)

theorem takeScan_eq (c : Consumer) (act : Scan → State → State) (s : State) :
    takeScan c act s = .next (taken c act s).settle := by
  unfold takeScan taken
  cases scanFor c s.toTake <;> rfl

/-- What a command that is no request does before the outputs and the line settle. -/
def eventOf (i : Instr) : Option (State → State) :=
  match i with
  | .frameReceived kind tag payload crc => some (State.checkFrame kind tag payload crc)
  | .frameGapTimeout => some State.gapTimeout
  | .transmitComplete => some State.endSending
  | .scanTick => some fun s => s.atDate s.scanner.countdown State.tickScan
  | .probeReply address values crc => some (State.takeProbeReply address values crc)
  | .probeTimeout => some State.passProbeTimeout
  | .stationScan i => some (taken (.station i) fun x t => t.stationScan i x)
  | .pierceTimeEnd i => some (State.timedEnd i .piercing fun t => t.pierceEnd i)
  | .evacuationLimitExpiry i => some (State.timedEnd i .evacuating fun t => t.releaseWith i .vacuumNotReached)
  | .holdTimeEnd i => some (State.timedEnd i .holding fun t => t.holdEnd i)
  | .releaseTimeEnd i => some (State.timedEnd i .releasing fun t => t.releaseEnd i)
  | .suspendLimitExpiry i => some (State.timedEnd i .suspended fun t => t.releaseWith i .suspendExpired)
  | .receiverScan f => some (taken (.receiver f) fun x t => t.receiverScan f x)
  | .chamberScan => some (taken .chamber State.chamberScan)
  | .inertTimeoutExpiry => some fun s => s.waitExpiry .inertWait s.chamber.limits.inertTimeout .ofInertingFailed
  | .ventTimeoutExpiry => some fun s => s.waitExpiry .ventWait s.chamber.limits.ventTimeout .ofVentFailed
  | .protectionScan => some (taken .protection State.protectionScan)
  | .sampleScanWrite => some (taken .sampleStream State.writeScan)
  | .frameByteReceived b => some (State.receiveByte b)
  | _ => none

/-- An event acts, and the outputs and the line settle. -/
theorem exec_event {i : Instr} {act : State → State} (e : eventOf i = some act) (s : State) :
    exec i s = .next (act s).settle := by
  cases i <;> simp only [eventOf, Option.some.injEq, reduceCtorEq] at e <;> subst e
  case stationScan => exact takeScan_eq _ _ _
  case receiverScan => exact takeScan_eq _ _ _
  case chamberScan => exact takeScan_eq _ _ _
  case protectionScan => exact takeScan_eq _ _ _
  case sampleScanWrite => exact takeScan_eq _ _ _
  all_goals rfl

/-- What a received request does: it waits, or it is answered in its turn. -/
theorem takeRequest_cases (r : Request) (handle : State → State × Reply) (s : State) :
    takeRequest r handle s = .next (s.receiveRequest r).settle
      ∨ ∃ f, takeRequest r handle s = .next ((handle s.takeFromQueue).1.answerWith f).settle := by
  unfold takeRequest
  split
  · exact .inr ⟨_, rfl⟩
  · exact .inl rfl

/-- R186, R187: everything that a command can do. -/
theorem exec_cases (i : Instr) (s : State) :
    exec i s = .next { State.reset with pending := s.pending, choices := s.choices }
      ∨ (∃ r, exec i s = .next (s.receiveRequest r).settle)
      ∨ (∃ f, exec i s = .next (s.takeFromQueue.answerWith f).settle)
      ∨ (∃ h f, handlerOf i = some h ∧ exec i s = .next ((h s.takeFromQueue).1.answerWith f).settle)
      ∨ ∃ act, eventOf i = some act ∧ exec i s = .next (act s).settle := by
  rcases hh : handlerOf i with _ | h
  · rcases he : eventOf i with _ | act
    · cases i <;> simp only [handlerOf, eventOf, reduceCtorEq] at hh he
      case powerOn => exact .inl rfl
      case badKind kind tag payload =>
        simp only [exec, execBadKind]
        split
        · exact .inr (.inr (.inl ⟨_, rfl⟩))
        · exact .inr (.inl ⟨_, rfl⟩)
    · exact .inr (.inr (.inr (.inr ⟨act, rfl, exec_event he s⟩)))
  · obtain ⟨kind, tag, payload, _, e⟩ := exec_handler hh s
    rw [e]
    obtain hwait | ⟨f, hanswer⟩ := takeRequest_cases ⟨kind, tag, payload⟩ h s
    · exact .inr (.inl ⟨_, hwait⟩)
    · exact .inr (.inr (.inr (.inl ⟨h, f, rfl, hanswer⟩)))

/-! ### What an invariant has to survive -/

/-- `P` survives each of the part's actions. -/
structure Kept (P : State → Prop) : Prop where
  choose : ∀ {s} (l : List Instr) (n : Nat), P s → P { s with pending := l, choices := n }
  reset : ∀ (l : List Instr) (n : Nat), P { State.reset with pending := l, choices := n }
  settle : ∀ {s}, P s → P s.settle
  elapse : ∀ {s n}, n ≤ s.scanner.countdown → P s → P (s.elapse n)
  setRx : ∀ {s} (x : FrameReceiver), P s → P (s.setRx x)
  setFlag : ∀ {s} (x : ReadFlag), P s → P (s.setFlag x)
  receive : ∀ {s} (r : Request), P s → P (s.receiveRequest r)
  endSending : ∀ {s}, P s → P (s.setLink { s.link with sending := none })
  dequeue : ∀ {s}, P s → P s.takeFromQueue
  answer : ∀ {s} (f : TxFrame), P s → P (s.answerWith f)
  taking : ∀ {s} (c : Consumer), P s → P (s.taking c)
  note : ∀ {s} (before : Vector Station 4), P s → P (s.noteStations before)
  handle : ∀ {s i h}, handlerOf i = some h → P s → P (h s).1
  tickScan : ∀ {s}, s.scanner.countdown = 0 → P s → P s.tickScan
  readMissed : ∀ {s} (p : ScanInProgress), P s → P (s.readMissed p)
  readGood : ∀ {s} (p : ScanInProgress) (values : List (BitVec 32)), P s → P (s.readGood p values)
  stationScan : ∀ {s} (i : StationNo) (x : Scan), P s → P (s.stationScan i x)
  receiverScan : ∀ {s} (f : Family) (x : Scan), P s → P (s.receiverScan f x)
  chamberScan : ∀ {s} (x : Scan), P s → P (s.chamberScan x)
  protectionScan : ∀ {s} (x : Scan), P s → P (s.protectionScan x)
  writeScan : ∀ {s} (x : Scan), P s → P (s.writeScan x)
  pierceEnd : ∀ {s} (i : StationNo), (s.station i).state = .piercing → P s → P (s.pierceEnd i)
  release : ∀ {s} (i : StationNo) (a : Anomaly), (s.station i).state = .evacuating ∨ (s.station i).state = .suspended →
    P s → P (s.releaseWith i a)
  holdEnd : ∀ {s} (i : StationNo), (s.station i).state = .holding → P s → P (s.holdEnd i)
  releaseEnd : ∀ {s} (i : StationNo), (s.station i).state = .releasing → P s → P (s.releaseEnd i)
  expire : ∀ {s c} (a : TripCauses), a = .ofInertingFailed ∨ a = .ofVentFailed → s.chamber.standing = .charging c → P s →
    P (s.addCauses a)

theorem Station.elapse_state (n : Nat) (st : Station) : (st.elapse n).state = st.state := by
  unfold Machine.Station.elapse; split <;> simp_all

/-- 8.1: with none of the part's own events ready the scan tick is still to come. -/
theorem countdown_pos_of_not_ready {s : State} (h : s.readyEvents = []) : 1 ≤ s.scanner.countdown := by
  have hscanner : s.scanner.readyEvents = [] := by
    simp only [State.readyEvents, List.append_eq_nil_iff] at h
    exact h.1.1.2
  refine Classical.byContradiction fun hzero => ?_
  simp [Scanner.readyEvents, show s.scanner.countdown = 0 by omega] at hscanner

section kept
variable {P : State → Prop} (k : Kept P) {s : State}
include k

theorem Kept.atDate {n : Nat} {act : State → State} (ha : s.mayPass n = true → P (s.elapse n) → P (act (s.elapse n)))
    (h : P s) : P (s.atDate n act) := by
  obtain ⟨hpass, e⟩ | ⟨_, e⟩ := s.atDate_cases n act <;> rw [e]
  · exact ha hpass (k.elapse (State.le_countdown_of_mayPass hpass) h)
  · exact h

theorem Kept.timedEnd {i : StationNo} {x : StationState} {act : State → State}
    (ha : ∀ t : State, (t.station i).state = x → P t → P (act t)) (h : P s) : P (s.timedEnd i x act) := by
  unfold State.timedEnd
  split
  · rename_i hx
    exact k.atDate (fun _ ht => k.note _ (ha _ (by simp [Station.elapse_state, hx]) ht)) h
  · exact h

theorem Kept.discard (h : P s) : P s.discardFrame := k.setFlag _ (k.setRx _ h)

theorem Kept.checkFrame (kind tag : Byte) (payload : List Byte) (crc : BitVec 16) (h : P s) :
    P (s.checkFrame kind tag payload crc) := by
  unfold State.checkFrame; repeat' split
  · exact k.discard h
  · exact k.receive _ (k.setRx _ h)
  · exact k.discard h

theorem Kept.byteWaiting (b : Byte) (h : P s) : P (s.byteWaiting b) := by
  unfold State.byteWaiting; split
  · exact k.setRx _ h
  · exact k.discard h

theorem Kept.receiveByte (b : Byte) (h : P s) : P (s.receiveByte b) := by
  unfold State.receiveByte; split
  · exact k.byteWaiting b h
  · split
    · exact k.byteWaiting b (k.discard h)
    · unfold State.byteInside; repeat' split
      · exact k.setRx _ h
      · exact k.discard h
      · exact k.setRx _ h
      · exact k.checkFrame _ _ _ _ h

theorem Kept.taken {c : Consumer} {act : Scan → State → State} (ha : ∀ (t : State) x, P t → P (act x t)) (h : P s) :
    P (taken c act s) := by
  unfold Steps.taken; split
  · exact h
  · exact ha _ _ (k.taking c h)

theorem Kept.waitExpiry {phase : Phase} {seconds : Nat} {cause : TripCauses}
    (hc : cause = .ofInertingFailed ∨ cause = .ofVentFailed) (h : P s) : P (s.waitExpiry phase seconds cause) := by
  unfold State.waitExpiry; split
  · rename_i c hstanding
    split
    · refine k.atDate (fun _ ht => ?_) h
      obtain ⟨d, hd⟩ : ∃ d, (s.elapse (seconds * Config.ticksPerSecond + 1 - c.waitElapsed)).chamber.standing
          = .charging d := by
        simp only [State.elapse, hstanding, ChamberStanding.elapse]
        split <;> exact ⟨_, rfl⟩
      exact k.expire _ hc hd ht
    · exact h
  · exact h

theorem Kept.event {i : Instr} {act : State → State} (e : eventOf i = some act) (h : P s) : P (act s) := by
  cases i <;> simp only [eventOf, Option.some.injEq, reduceCtorEq] at e <;> subst e
  case frameReceived => exact k.checkFrame _ _ _ _ h
  case frameGapTimeout =>
    unfold State.gapTimeout; split
    · exact h
    · exact k.atDate (fun _ ht => k.discard ht) h
  case transmitComplete =>
    unfold State.endSending; split
    · exact h
    · exact k.atDate (fun _ ht => k.endSending ht) h
  case scanTick => exact k.atDate (fun _ ht => k.tickScan (by simp [State.elapse, Scanner.elapse]) ht) h
  case probeReply =>
    unfold State.takeProbeReply; repeat' split
    · exact h
    · exact k.readGood _ _ h
    · exact k.readMissed _ h
  case probeTimeout =>
    unfold State.passProbeTimeout; split
    · exact h
    · exact k.atDate (fun _ ht => k.readMissed _ ht) h
  case stationScan i => exact k.taken (fun _ x => k.stationScan i x) h
  case pierceTimeEnd i => exact k.timedEnd (fun _ => k.pierceEnd i) h
  case evacuationLimitExpiry i => exact k.timedEnd (fun _ hx => k.release i _ (.inl hx)) h
  case holdTimeEnd i => exact k.timedEnd (fun _ => k.holdEnd i) h
  case releaseTimeEnd i => exact k.timedEnd (fun _ => k.releaseEnd i) h
  case suspendLimitExpiry i => exact k.timedEnd (fun _ hx => k.release i _ (.inr hx)) h
  case receiverScan f => exact k.taken (fun _ x => k.receiverScan f x) h
  case chamberScan => exact k.taken (fun _ x => k.chamberScan x) h
  case inertTimeoutExpiry => exact k.waitExpiry (.inl rfl) h
  case ventTimeoutExpiry => exact k.waitExpiry (.inr rfl) h
  case protectionScan => exact k.taken (fun _ x => k.protectionScan x) h
  case sampleScanWrite => exact k.taken (fun _ x => k.writeScan x) h
  case frameByteReceived b => exact k.receiveByte b h

theorem Kept.exec {i : Instr} {t : State} (h : P s) (e : exec i s = .next t) : P t := by
  obtain hi | ⟨r, hi⟩ | ⟨f, hi⟩ | ⟨g, f, hg, hi⟩ | ⟨act, ha, hi⟩ := exec_cases i s <;>
    (rw [hi] at e; cases e)
  · exact k.reset _ _
  · exact k.settle (k.receive r h)
  · exact k.settle (k.answer f (k.dequeue h))
  · exact k.settle (k.answer f (k.handle hg (k.dequeue h)))
  · exact k.settle (k.event ha h)

theorem Kept.idle (h : P s) : P s.idle := by
  unfold State.idle; split
  · rename_i hready
    exact k.settle (k.elapse (countdown_pos_of_not_ready hready) h)
  · exact k.choose _ s.choices h
  · exact k.choose _ _ h

/-- An invariant that survives each action survives every step. -/
theorem Kept.step {t : State} (h : P s) (e : step s = .next t) : P t := by
  unfold Machine.step at e
  split at e
  · cases e
    exact k.idle h
  · exact k.exec (k.choose _ s.choices h) e

end kept

theorem Kept.and {P Q : State → Prop} (p : Kept P) (q : Kept Q) : Kept fun s => P s ∧ Q s where
  choose l n h := ⟨p.choose l n h.1, q.choose l n h.2⟩
  reset l n := ⟨p.reset l n, q.reset l n⟩
  settle h := ⟨p.settle h.1, q.settle h.2⟩
  elapse hn h := ⟨p.elapse hn h.1, q.elapse hn h.2⟩
  setRx x h := ⟨p.setRx x h.1, q.setRx x h.2⟩
  setFlag x h := ⟨p.setFlag x h.1, q.setFlag x h.2⟩
  receive r h := ⟨p.receive r h.1, q.receive r h.2⟩
  endSending h := ⟨p.endSending h.1, q.endSending h.2⟩
  dequeue h := ⟨p.dequeue h.1, q.dequeue h.2⟩
  answer f h := ⟨p.answer f h.1, q.answer f h.2⟩
  taking c h := ⟨p.taking c h.1, q.taking c h.2⟩
  note b h := ⟨p.note b h.1, q.note b h.2⟩
  handle e h := ⟨p.handle e h.1, q.handle e h.2⟩
  tickScan hc h := ⟨p.tickScan hc h.1, q.tickScan hc h.2⟩
  readMissed r h := ⟨p.readMissed r h.1, q.readMissed r h.2⟩
  readGood r v h := ⟨p.readGood r v h.1, q.readGood r v h.2⟩
  stationScan i x h := ⟨p.stationScan i x h.1, q.stationScan i x h.2⟩
  receiverScan f x h := ⟨p.receiverScan f x h.1, q.receiverScan f x h.2⟩
  chamberScan x h := ⟨p.chamberScan x h.1, q.chamberScan x h.2⟩
  protectionScan x h := ⟨p.protectionScan x h.1, q.protectionScan x h.2⟩
  writeScan x h := ⟨p.writeScan x h.1, q.writeScan x h.2⟩
  pierceEnd i hx h := ⟨p.pierceEnd i hx h.1, q.pierceEnd i hx h.2⟩
  release i a hx h := ⟨p.release i a hx h.1, q.release i a hx h.2⟩
  holdEnd i hx h := ⟨p.holdEnd i hx h.1, q.holdEnd i hx h.2⟩
  releaseEnd i hx h := ⟨p.releaseEnd i hx h.1, q.releaseEnd i hx h.2⟩
  expire a ha hc h := ⟨p.expire a ha hc h.1, q.expire a ha hc h.2⟩

/-! ### Invariants that read some of the blocks only -/

/-- What `P` says of a state is said by the blocks in `V`. -/
def Reads (V : List Block) (P : State → Prop) : Prop := ∀ s t, (∀ b ∈ V, Same b s t) → P s → P t

/-- A change outside the blocks that an invariant reads keeps it. -/
theorem Reads.of_differs {V k : List Block} {P : State → Prop} (r : Reads V P) {s t : State} (d : Differs k s t)
    (hv : ∀ b ∈ V, b ∉ k := by decide) (h : P s) : P t :=
  r s t (fun b hb => d.same b (hv b hb)) h

/-- The blocks of the part's plant: all but the scanner, the Link block's own, and the outputs. -/
abbrev plant : List Block := [.tracker, .stations, .receivers, .chamber, .shift, .protection, .mode, .sample, .settings]

section reads
variable {P : State → Prop} {s : State}

/-- The end of a command changes the line, the Notice Queue and the outputs alone. -/
theorem settle_same {b : Block} (hb : b ∉ [Block.line, .notices, .pins]) : Same b s s.settle := by
  cases b <;> simp [Same] at hb ⊢

theorem setRx_same {x : FrameReceiver} {b : Block} (hb : b ≠ .line) : Same b s (s.setRx x) := by
  cases b <;> simp [Same, State.setRx] at hb ⊢

theorem setFlag_same {x : ReadFlag} {b : Block} (hb : b ≠ .notices) : Same b s (s.setFlag x) :=
  setFlag_differs.same b (by simpa using hb)

theorem receiveRequest_same {r : Request} {b : Block} (hb : b ∉ [Block.line, .notices]) :
    Same b s (s.receiveRequest r) := by
  unfold State.receiveRequest; split
  · cases b <;> simp [Same] at hb ⊢
  · exact setFlag_same (by simp_all)

theorem endSending_same {b : Block} (hb : b ≠ .line) : Same b s (s.setLink { s.link with sending := none }) := by
  cases b <;> simp [Same] at hb ⊢

theorem takeFromQueue_same {b : Block} (hb : b ≠ .line) : Same b s s.takeFromQueue := by
  cases b <;> simp [Same] at hb ⊢

theorem answerWith_same {f : TxFrame} {b : Block} (hb : b ≠ .line) : Same b s (s.answerWith f) := by
  cases b <;> simp [Same, State.answerWith] at hb ⊢

theorem taking_same {c : Consumer} {b : Block} (hb : b ≠ .line) : Same b s (s.taking c) := by
  cases b <;> simp [Same, State.taking] at hb ⊢

theorem choose_same {l : List Instr} {n : Nat} {b : Block} (hb : b ≠ .line) :
    Same b s { s with pending := l, choices := n } := by
  cases b <;> simp [Same] at hb ⊢

/-- R154: the scanner's own reading touches the scanner, the scans to be taken and PROBE_FAILED alone. -/
theorem continueScan_same {e n : Nat} {b : Block} (hb : b ∉ [Block.scanner, .line]) : Same b s (s.continueScan e n) := by
  unfold State.continueScan; split
  · exact setScanner_differs.same b (by simp_all)
  · cases b <;> simp [Same, State.publish] at hb ⊢

theorem countMiss_same {n : SlotNo} {b : Block} (hb : b ∉ [Block.scanner, .notices]) : Same b s (s.countMiss n) := by
  unfold State.countMiss; dsimp only; repeat' split
  · exact (setSlot_differs.seq raise_differs).same b (by simp_all)
  · exact setSlot_differs.same b (by simp_all)
  · exact .refl b s

theorem countGood_same {n : SlotNo} {b : Block} (hb : b ≠ .scanner) : Same b s (s.countGood n) := by
  unfold State.countGood; dsimp only; split
  · exact setSlot_differs.same b (by simp_all)
  · exact .refl b s

theorem readMissed_same {p : ScanInProgress} {b : Block} (hb : b ∉ [Block.scanner, .line, .notices]) :
    Same b s (s.readMissed p) :=
  (countMiss_same (by simp_all)).trans (continueScan_same (by simp_all))

theorem readGood_same {p : ScanInProgress} {values : List (BitVec 32)} {b : Block} (hb : b ∉ [Block.scanner, .line]) :
    Same b s (s.readGood p values) :=
  ((setScanner_differs.same b (by simp_all)).trans (countGood_same (by simp_all))).trans (continueScan_same (by simp_all))

theorem tickScan_same {b : Block} (hb : b ∉ [Block.scanner, .line, .notices]) : Same b s s.tickScan := by
  unfold State.tickScan; dsimp only; split
  · exact (setScanner_differs.seq setFlag_differs).same b (by simp_all)
  · exact ((setScanner_differs.seq setScanner_differs).same b (by simp_all)).trans (continueScan_same (by simp_all))

/-- An invariant that reads the scanner alone is kept when the scanner's own actions keep it. -/
theorem Reads.kept_scanner (r : Reads [.scanner] P)
    (reset : P State.reset)
    (elapse : ∀ {s n}, n ≤ s.scanner.countdown → P s → P (s.elapse n))
    (tickScan : ∀ {s}, s.scanner.countdown = 0 → P s → P s.tickScan)
    (readMissed : ∀ {s} (p : ScanInProgress), P s → P (s.readMissed p))
    (readGood : ∀ {s} (p : ScanInProgress) (values : List (BitVec 32)), P s → P (s.readGood p values))
    (handle : ∀ {s i h}, handlerOf i = some h → Block.scanner ∈ touched i → P s → P (h s).1) : Kept P where
  choose l n := r _ _ fun b hb => choose_same (by rintro rfl; simp at hb)
  reset l n := r State.reset _ (fun b hb => choose_same (by rintro rfl; simp at hb)) reset
  settle := r _ _ fun b hb => settle_same (by cases b <;> simp at hb ⊢)
  elapse := elapse
  setRx x := r _ _ fun b hb => setRx_same (by rintro rfl; simp at hb)
  setFlag x := r _ _ fun b hb => setFlag_same (by rintro rfl; simp at hb)
  receive x := r _ _ fun b hb => receiveRequest_same (by cases b <;> simp at hb ⊢)
  endSending := r _ _ fun b hb => endSending_same (by rintro rfl; simp at hb)
  dequeue := r _ _ fun b hb => takeFromQueue_same (by rintro rfl; simp at hb)
  answer f := r _ _ fun b hb => answerWith_same (by rintro rfl; simp at hb)
  taking c := r _ _ fun b hb => taking_same (by rintro rfl; simp at hb)
  note before := r.of_differs noteStations_differs
  handle {s i h} e hs := by
    by_cases hi : Block.scanner ∈ touched i
    · exact handle e hi hs
    · exact r _ _ (fun b hb => (handler_differs e s).same b (by simp_all)) hs
  tickScan := tickScan
  readMissed := readMissed
  readGood := readGood
  stationScan i x := r.of_differs stationScan_differs
  receiverScan f x := r.of_differs receiverScan_differs
  chamberScan x := r.of_differs chamberScan_differs
  protectionScan x := r.of_differs protectionScan_differs
  writeScan x := r.of_differs writeScan_differs
  pierceEnd i _ := r.of_differs pierceEnd_differs
  release i a _ := r.of_differs releaseWith_differs
  holdEnd i _ := r.of_differs holdEnd_differs
  releaseEnd i _ := r.of_differs releaseEnd_differs
  expire a _ _ := r.of_differs addCauses_differs

/-- What an invariant of the plant has to survive: the stations, the units, the chamber and the line mode at work. -/
structure PlantKept (P : State → Prop) : Prop where
  reads : Reads plant P
  reset : P State.reset
  elapse : ∀ {s} (n : Nat), P s → P (s.elapse n)
  handle : ∀ {s i h}, handlerOf i = some h → P s → P (h s).1
  stationScan : ∀ {s} (i : StationNo) (x : Scan), P s → P (s.stationScan i x)
  receiverScan : ∀ {s} (f : Family) (x : Scan), P s → P (s.receiverScan f x)
  chamberScan : ∀ {s} (x : Scan), P s → P (s.chamberScan x)
  protectionScan : ∀ {s} (x : Scan), P s → P (s.protectionScan x)
  writeScan : ∀ {s} (x : Scan), P s → P (s.writeScan x)
  pierceEnd : ∀ {s} (i : StationNo), (s.station i).state = .piercing → P s → P (s.pierceEnd i)
  release : ∀ {s} (i : StationNo) (a : Anomaly), (s.station i).state = .evacuating ∨ (s.station i).state = .suspended →
    P s → P (s.releaseWith i a)
  holdEnd : ∀ {s} (i : StationNo), (s.station i).state = .holding → P s → P (s.holdEnd i)
  releaseEnd : ∀ {s} (i : StationNo), (s.station i).state = .releasing → P s → P (s.releaseEnd i)
  expire : ∀ {s c} (a : TripCauses), a = .ofInertingFailed ∨ a = .ofVentFailed → s.chamber.standing = .charging c → P s →
    P (s.addCauses a)

/-- A block of the plant is none of the scanner's, the Link block's own and the outputs. -/
theorem not_mem_of_plant {b : Block} (hb : b ∈ plant) : b ∉ [Block.scanner, .line, .notices, .pins] := by
  cases b <;> simp [plant] at hb ⊢

/-- An invariant of the plant is kept by whatever the scanner and the Link block do. -/
theorem PlantKept.kept (k : PlantKept P) : Kept P where
  choose l n := k.reads _ _ fun b hb => choose_same (by rintro rfl; simp [plant] at hb)
  reset l n := k.reads State.reset _ (fun b hb => choose_same (by rintro rfl; simp [plant] at hb)) k.reset
  settle := k.reads _ _ fun b hb => settle_same (by have := not_mem_of_plant hb; simp_all)
  elapse _ := k.elapse _
  setRx x := k.reads _ _ fun b hb => setRx_same (by rintro rfl; simp [plant] at hb)
  setFlag x := k.reads _ _ fun b hb => setFlag_same (by rintro rfl; simp [plant] at hb)
  receive x := k.reads _ _ fun b hb => receiveRequest_same (by have := not_mem_of_plant hb; simp_all)
  endSending := k.reads _ _ fun b hb => endSending_same (by rintro rfl; simp [plant] at hb)
  dequeue := k.reads _ _ fun b hb => takeFromQueue_same (by rintro rfl; simp [plant] at hb)
  answer f := k.reads _ _ fun b hb => answerWith_same (by rintro rfl; simp [plant] at hb)
  taking c := k.reads _ _ fun b hb => taking_same (by rintro rfl; simp [plant] at hb)
  note before := k.reads.of_differs noteStations_differs
  handle := k.handle
  tickScan _ := k.reads _ _ fun b hb => tickScan_same (by have := not_mem_of_plant hb; simp_all)
  readMissed p := k.reads _ _ fun b hb => readMissed_same (by have := not_mem_of_plant hb; simp_all)
  readGood p v := k.reads _ _ fun b hb => readGood_same (by have := not_mem_of_plant hb; simp_all)
  stationScan := k.stationScan
  receiverScan := k.receiverScan
  chamberScan := k.chamberScan
  protectionScan := k.protectionScan
  writeScan := k.writeScan
  pierceEnd := k.pierceEnd
  release := k.release
  holdEnd := k.holdEnd
  releaseEnd := k.releaseEnd
  expire := k.expire

end reads

end Sys2Proof.Proofs.Steps

/-! # The outputs, the transmit line, and the scanner's invariants (R30, R75, R188; R150 to R152; R157)

The outputs and the line stand right after every command because every command ends with `State.settle`. The ticks and the
allocations are invariants of the scanner alone. -/

namespace Sys2Proof.Proofs.Clockwork
open Sys2Proof Sys2Proof.Machine Sys2Proof.Proofs.Frames Sys2Proof.Proofs.Steps

set_option Elab.async false

/-! ### Outputs and line -/

theorem settle_outputsFollow (s : State) : s.settle.OutputsFollow := rfl

theorem settle_lineServed (s : State) : s.settle.LineServed := s.link.arbitrate_served

theorem reset_outputsFollow : State.reset.OutputsFollow := by decide

/-- Every command leaves the outputs and the line settled. -/
theorem exec_settles (i : Instr) {s t : State} (e : exec i s = .next t) : t.OutputsFollow ∧ t.LineServed := by
  obtain hi | ⟨_, hi⟩ | ⟨_, hi⟩ | ⟨_, _, _, hi⟩ | ⟨_, _, hi⟩ := exec_cases i s <;> (rw [hi] at e; cases e)
  · exact ⟨reset_outputsFollow, fun _ => ⟨rfl, rfl⟩⟩
  all_goals exact ⟨settle_outputsFollow _, settle_lineServed _⟩

/-- Settles O7: a command settles; an own event raised changes neither the outputs nor the line. -/
theorem stepKeepsOutputsAndLine : Obligations.StepKeepsOutputsAndLine := by
  intro s t hout hline e
  unfold step at e
  split at e
  · cases e
    unfold State.idle; split
    · exact ⟨settle_outputsFollow _, settle_lineServed _⟩
    · exact ⟨hout, hline⟩
    · exact ⟨hout, hline⟩
  · exact exec_settles _ e

/-! ### What the scanner's actions do to its clock (R150, R151) -/

/-- The scanner's clock: its divisor, countdown, the ticks since the previous start and the mark. -/
def clock (c : Scanner) : Nat × Nat × Nat × Bool := (c.divisor, c.countdown, c.sinceStart, c.markedD)

theorem continueScan_clock (s : State) (e n : Nat) : clock (s.continueScan e n).scanner = clock s.scanner := by
  unfold State.continueScan; split <;> rfl

theorem countMiss_clock (s : State) (n : SlotNo) : clock (s.countMiss n).scanner = clock s.scanner := by
  unfold State.countMiss; dsimp only; repeat' split
  · rw [State.raise_scanner]; rfl
  · rfl
  · rfl

theorem countGood_clock (s : State) (n : SlotNo) : clock (s.countGood n).scanner = clock s.scanner := by
  unfold State.countGood; dsimp only; split <;> rfl

theorem readMissed_clock (s : State) (p : ScanInProgress) : clock (s.readMissed p).scanner = clock s.scanner := by
  rw [State.readMissed, continueScan_clock, countMiss_clock]

theorem readGood_clock (s : State) (p : ScanInProgress) (v : List (BitVec 32)) :
    clock (s.readGood p v).scanner = clock s.scanner := by
  rw [State.readGood, continueScan_clock, countGood_clock]
  simp only [clock, State.setScanner_scanner]

/-- R150 to R152: the clock keeps step. -/
def InStep (c : Nat × Nat × Nat × Bool) : Prop :=
  10 ≤ c.1 ∧ c.1 ≤ 10000 ∧ c.2.1 ≤ c.1 ∧ (c.2.2.2 = true ∨ c.1 ∣ c.2.2.1 + c.2.1)

theorem ticksHeld_iff (s : State) : s.TicksHeld ↔ InStep (clock s.scanner) := Iff.rfl

theorem elapse_ticksHeld {s : State} {n : Nat} (hn : n ≤ s.scanner.countdown) (h : s.TicksHeld) : (s.elapse n).TicksHeld := by
  obtain ⟨hlow, hhigh, hcount, hmark⟩ := h
  have hsum : s.scanner.sinceStart + n + (s.scanner.countdown - n) = s.scanner.sinceStart + s.scanner.countdown := by omega
  refine ⟨hlow, hhigh, Nat.le_trans (Nat.sub_le _ _) hcount, hmark.imp id fun hdvd => ?_⟩
  simpa [State.elapse, Scanner.elapse, hsum] using hdvd

theorem tickScan_ticksHeld {s : State} (hzero : s.scanner.countdown = 0) (h : s.TicksHeld) : s.tickScan.TicksHeld := by
  obtain ⟨hlow, hhigh, _, hmark⟩ := h
  unfold State.tickScan; dsimp only; split
  · refine ⟨hlow, hhigh, Nat.le_refl _, hmark.imp id fun hdvd => ?_⟩
    rw [hzero, Nat.add_zero] at hdvd
    exact Nat.dvd_add hdvd (Nat.dvd_refl _)
  · rw [ticksHeld_iff, State.startScan, continueScan_clock]
    exact ⟨hlow, hhigh, Nat.le_refl _, .inr (by simp [clock])⟩

theorem handleSetDivisor_ticksHeld {s : State} (n : Nat) (h : s.TicksHeld) : (handleSetDivisor n s).1.TicksHeld := by
  unfold handleSetDivisor; dsimp only; split
  · exact h
  · have hlow : 10 ≤ storedDivisor n := by unfold storedDivisor; omega
    have hhigh : storedDivisor n ≤ 10000 := by unfold storedDivisor; omega
    exact ⟨hlow, hhigh, Nat.le_refl _, .inl rfl⟩

/-- A refused request has changed nothing. -/
theorem refused_keeps {P : State → Prop} {s : State} {st : Status} (h : P s) : P (s.refuse st).1 := h

theorem withLayout_keeps {α : Type} {P : State → Prop} {o : Option α} {g : α → State → State × Reply} {s : State}
    (hg : ∀ a, P (g a s).1) (h : P s) : P (withLayout o g s).1 := by
  cases o with
  | none => exact h
  | some a => exact hg a

theorem ticksHeld_reads : Reads [.scanner] State.TicksHeld := by
  intro s t hb h
  have hscanner : t.scanner = s.scanner := hb .scanner (by simp)
  simpa only [ticksHeld_iff, hscanner] using h

/-- R150 to R152: of the requests only SET_SCAN_DIVISOR changes the clock. -/
theorem handler_ticksHeld {s : State} {i : Instr} {g : State → State × Reply} (e : handlerOf i = some g)
    (hi : Block.scanner ∈ touched i) (h : s.TicksHeld) : (g s).1.TicksHeld := by
  cases i <;> simp [touched] at hi <;> simp only [handlerOf, Option.some.injEq] at e <;> subst e <;>
    refine withLayout_keeps (fun a => ?_) h
  case setScanDivisor => exact handleSetDivisor_ticksHeld a h
  case setScanSlot =>
    unfold handleSetSlot; repeat' split
    all_goals exact h
  case scannerReset => unfold handleScannerReset; split <;> exact h
  case bindSignal =>
    unfold handleBind; repeat' split
    all_goals exact h
  case setSignalLimits =>
    unfold handleSetSignalLimits; repeat' split
    all_goals exact h

theorem ticksHeld_kept : Kept State.TicksHeld :=
  ticksHeld_reads.kept_scanner (by decide) elapse_ticksHeld tickScan_ticksHeld
    (fun p h => by rw [ticksHeld_iff, readMissed_clock]; exact h)
    (fun p v h => by rw [ticksHeld_iff, readGood_clock]; exact h)
    handler_ticksHeld

/-- Settles O11, by `Kept.step`. -/
theorem stepKeepsTicks : Obligations.StepKeepsTicks := fun _ _ h e => ticksHeld_kept.step h e

/-! ### The slots' allocations (R157, R158) -/

/-- R157: what `State.AllocationsHeld` says of the slots. -/
def Apart (slots : Vector Slot 12) : Prop :=
  (∀ n : SlotNo, 1 ≤ slots[n].count ∧ Allocation.inside slots[n].allocation = true)
    ∧ ∀ m n : SlotNo, m ≠ n → Allocation.apart slots[m].allocation slots[n].allocation = true

theorem allocationsHeld_iff (s : State) : s.AllocationsHeld ↔ Apart s.scanner.slots := Iff.rfl

theorem getElem_set_slot (slots : Vector Slot 12) (n m : SlotNo) (x : Slot) :
    (slots.set n x)[m] = if n = m then x else slots[m] := by
  by_cases h : n = m
  · subst h; simp
  · have : (n : Nat) ≠ m := fun e => h (Fin.ext e)
    simp [h, this]

theorem apart_none (o : Option Allocation) : Allocation.apart none o = true ∧ Allocation.apart o none = true := by
  cases o <;> exact ⟨rfl, rfl⟩

theorem apart_comm (o p : Option Allocation) : Allocation.apart o p = Allocation.apart p o := by
  cases o <;> cases p <;> simp [Allocation.apart, Bool.or_comm]

/-- A slot whose count is at least one and whose allocation is the one it had changes nothing of the allocations. -/
theorem Apart.set_same {slots : Vector Slot 12} (h : Apart slots) (n : SlotNo) {x : Slot} (hcount : 1 ≤ x.count)
    (hsame : x.allocation = slots[n].allocation) : Apart (slots.set n x) := by
  have hcell (m : SlotNo) : (slots.set n x)[m].allocation = slots[m].allocation := by
    rw [getElem_set_slot]; split
    · rename_i e; rw [hsame, e]
    · rfl
  refine ⟨fun m => ⟨?_, ?_⟩, fun m k hne => ?_⟩
  · rw [getElem_set_slot]; split
    · exact hcount
    · exact (h.1 m).1
  · rw [hcell]; exact (h.1 m).2
  · rw [hcell, hcell]; exact h.2 m k hne

/-- Slots changed one by one, each keeping its allocation and asking for at least one value. -/
theorem Apart.map {slots : Vector Slot 12} {f : Slot → Slot} (hcount : ∀ x, (f x).count = x.count)
    (hsame : ∀ x, (f x).allocation = x.allocation) (h : Apart slots) :
    Apart (Vector.ofFn fun i : SlotNo => f slots[i]) := by
  simpa [Apart, hcount, hsame] using h

theorem Apart.clear {slots : Vector Slot 12} (h : Apart slots) : Apart (clearAllocations slots) := by
  refine ⟨fun n => ?_, fun m n _ => ?_⟩
  · simpa [clearAllocations, Allocation.inside] using (h.1 n).1
  · simp [clearAllocations, apart_none]

/-- The running maximum of the ends of allocations is at least the end of each. -/
theorem le_foldl_ends (l : List Slot) (m : Nat) :
    m ≤ l.foldl (fun m x => match x.allocation with
      | none => m
      | some a => max m (a.first + a.granted)) m
    ∧ ∀ x ∈ l, ∀ a, x.allocation = some a → a.first + a.granted ≤ l.foldl (fun m x => match x.allocation with
      | none => m
      | some a => max m (a.first + a.granted)) m := by
  induction l generalizing m with
  | nil => simp
  | cons y l ih =>
    rw [List.foldl_cons]
    rcases hy : y.allocation with _ | b
    · refine ⟨(ih m).1, fun x hx a ha => ?_⟩
      rcases List.mem_cons.mp hx with rfl | hx
      · simp [hy] at ha
      · exact (ih m).2 x hx a ha
    · have hm := (ih (max m (b.first + b.granted))).1
      refine ⟨Nat.le_trans (Nat.le_max_left _ _) hm, fun x hx a ha => ?_⟩
      rcases List.mem_cons.mp hx with rfl | hx
      · rw [hy, Option.some.injEq] at ha
        subst ha
        exact Nat.le_trans (Nat.le_max_right _ _) hm
      · exact (ih _).2 x hx a ha

/-- R157: no allocation reaches to the next free cell. -/
theorem end_le_nextFreeCell {slots : Vector Slot 12} {n : SlotNo} {a : Allocation} (h : slots[n].allocation = some a) :
    a.first + a.granted ≤ nextFreeCell slots :=
  (le_foldl_ends slots.toList 0).2 slots[n] (by simp) a h

theorem allocateAt_inside {first count : Nat} (hcount : 1 ≤ count) : Allocation.inside (allocateAt first count) = true := by
  unfold allocateAt; split
  · simp [Allocation.inside]; omega
  · rfl

theorem allocateAt_apart {slots : Vector Slot 12} (n : SlotNo) (count : Nat) :
    Allocation.apart slots[n].allocation (allocateAt (nextFreeCell slots) count) = true := by
  unfold allocateAt; split
  · rcases h : slots[n].allocation with _ | a
    · rfl
    · simp [Allocation.apart, end_le_nextFreeCell h]
  · exact (apart_none _).2

theorem Apart.allocate {slots : Vector Slot 12} (h : Apart slots) (n : SlotNo) : Apart (allocateSlot slots n) := by
  unfold allocateSlot; split
  · refine ⟨fun m => ?_, fun m k hne => ?_⟩
    · rw [getElem_set_slot]; split
      · exact ⟨(h.1 n).1, allocateAt_inside (h.1 n).1⟩
      · exact h.1 m
    · rw [getElem_set_slot, getElem_set_slot]; split <;> split
      · rename_i hm hk; exact absurd (hm.symm.trans hk) hne
      · rw [apart_comm]; exact allocateAt_apart k _
      · exact allocateAt_apart m _
      · exact h.2 m k hne
  · exact h

theorem Apart.rewrite {slots : Vector Slot 12} (h : Apart slots) (n : SlotNo) {o : SlotOperands} (ho : 1 ≤ o.count) :
    Apart (rewriteSlot n o slots) := by
  have hdefined : Apart (slots.set n (o.define slots[n])) := h.set_same n ho rfl
  unfold rewriteSlot; extract_lets t u
  have hu : Apart u := by
    unfold u; split
    · exact hdefined.clear
    · exact hdefined.allocate n
  exact hu.set_same n (hu.1 n).1 rfl

theorem Apart.reallocate {slots : Vector Slot 12} (h : Apart slots) : Apart (reallocate slots) := by
  have hfold (l : List SlotNo) (u : Vector Slot 12) (hu : Apart u) : Apart (l.foldl allocateSlot u) := by
    induction l generalizing u with
    | nil => exact hu
    | cons n l ih => exact ih _ (hu.allocate n)
  exact Apart.map (f := Slot.written) (fun _ => rfl) (fun _ => rfl) (hfold _ _ h.clear)

theorem countMiss_apart {s : State} (n : SlotNo) (h : Apart s.scanner.slots) : Apart (s.countMiss n).scanner.slots := by
  unfold State.countMiss; dsimp only; repeat' split
  · rw [State.raise_scanner]; exact h.set_same n (h.1 n).1 rfl
  · exact h.set_same n (h.1 n).1 rfl
  · exact h

theorem countGood_apart {s : State} (n : SlotNo) (h : Apart s.scanner.slots) : Apart (s.countGood n).scanner.slots := by
  unfold State.countGood; dsimp only; split
  · exact h.set_same n (h.1 n).1 rfl
  · exact h

theorem continueScan_slots (s : State) (e n : Nat) : (s.continueScan e n).scanner.slots = s.scanner.slots := by
  unfold State.continueScan; split <;> rfl

theorem tickScan_slots (s : State) : s.tickScan.scanner.slots = s.scanner.slots := by
  unfold State.tickScan; dsimp only; split
  · rfl
  · rw [State.startScan, continueScan_slots]; rfl

theorem allocationsHeld_reads : Reads [.scanner] State.AllocationsHeld := by
  intro s t hb h
  have hscanner : t.scanner = s.scanner := hb .scanner (by simp)
  simpa only [allocationsHeld_iff, hscanner] using h

/-- R157, R158, R167: of the requests only SET_SCAN_SLOT and SCANNER_RESET change the slots. -/
theorem handler_allocationsHeld {s : State} {i : Instr} {g : State → State × Reply} (e : handlerOf i = some g)
    (hi : Block.scanner ∈ touched i) (h : s.AllocationsHeld) : (g s).1.AllocationsHeld := by
  cases i <;> simp [touched] at hi <;> simp only [handlerOf, Option.some.injEq] at e <;> subst e <;>
    refine withLayout_keeps (fun a => ?_) h
  case setScanDivisor => unfold handleSetDivisor; dsimp only; split <;> exact h
  case setScanSlot =>
    unfold handleSetSlot; split
    · exact h
    · split
      · rename_i n _ hrange
        have hcount : 1 ≤ a.count := by simp [SlotOperands.inRange] at hrange; omega
        exact Apart.rewrite h n hcount
      · exact h
  case scannerReset =>
    unfold handleScannerReset; split
    · exact h
    · exact Apart.reallocate h
  case bindSignal =>
    unfold handleBind; repeat' split
    all_goals exact h
  case setSignalLimits =>
    unfold handleSetSignalLimits; repeat' split
    all_goals exact h

theorem allocationsHeld_kept : Kept State.AllocationsHeld :=
  allocationsHeld_reads.kept_scanner (by decide) (fun _ h => h)
    (fun _ h => by rw [allocationsHeld_iff, tickScan_slots]; exact h)
    (fun p h => by
      rw [allocationsHeld_iff, State.readMissed, continueScan_slots]
      exact countMiss_apart _ h)
    (fun p v h => by
      rw [allocationsHeld_iff, State.readGood, continueScan_slots]
      refine countGood_apart _ ?_
      simp only [State.setScanner_scanner]
      exact h)
    handler_allocationsHeld

end Sys2Proof.Proofs.Clockwork

/-! # What every rule keeps of the records it writes

`Sound s t` collects what is kept of a station (its cause set agrees with its state, its trace fits), of the chamber (residues,
history, settings), of the Unit Table (distinct tags, room) and of the Sample FIFO on the way from `s` to `t`. It is a preorder, so
a rule made of others is sound by `Sound.trans`. -/

namespace Sys2Proof.Proofs.Soundness
open Sys2Proof Sys2Proof.Machine Sys2Proof.Proofs.Frames Sys2Proof.Proofs.Steps

set_option Elab.async false

/-! ### Stations (R42, R57) -/

/-- R42: the cause set holds a cause exactly in SUSPENDED. -/
def CausesFit (st : Station) : Prop := st.causes ≠ .empty ↔ st.state = .suspended

/-- What is kept of a station's record. -/
structure StationFit (st st' : Station) : Prop where
  causes : CausesFit st → CausesFit st'
  trace : st.trace.length ≤ 32 → st'.trace.length ≤ 32

theorem StationFit.refl (st : Station) : StationFit st st := ⟨id, id⟩

theorem StationFit.trans {a b c : Station} (h : StationFit a b) (h' : StationFit b c) : StationFit a c :=
  ⟨h'.causes ∘ h.causes, h'.trace ∘ h.trace⟩

/-- A station that is left outside SUSPENDED with no cause fits. -/
theorem StationFit.cleared {st st' : Station} (hstate : st'.state ≠ .suspended) (hcauses : st'.causes = .empty)
    (htrace : st'.trace = st.trace) : StationFit st st' :=
  ⟨fun _ => by simp [CausesFit, hstate, hcauses], by rw [htrace]; exact id⟩

/-- A station moved from one state outside SUSPENDED to another fits when its causes stay. -/
theorem StationFit.moved {st st' : Station} (hstate : st.state ≠ .suspended) (hstate' : st'.state ≠ .suspended)
    (hcauses : st'.causes = st.causes) (htrace : st.trace.length ≤ 32 → st'.trace.length ≤ 32) : StationFit st st' :=
  ⟨fun h => by simpa [CausesFit, hstate', hcauses] using mt h.mp hstate, htrace⟩

/-- A change that leaves state, causes and trace alone fits. -/
theorem StationFit.same {st st' : Station} (hstate : st'.state = st.state) (hcauses : st'.causes = st.causes)
    (htrace : st'.trace = st.trace) : StationFit st st' :=
  ⟨fun h => by rwa [CausesFit, hstate, hcauses], by rw [htrace]; exact id⟩

theorem union_ne_empty {a b : Causes} (h : b ≠ .empty) : a.union b ≠ .empty := by
  cases a; cases b
  simp_all [Causes.union, Causes.empty]

/-- R36: the entry check leaves a cause exactly with SUSPENDED, whatever it started from. -/
theorem StationFit.enterEvacuation {st st' : Station} (b : Causes) (htrace : st'.trace = st.trace) :
    StationFit st (st'.enterEvacuation b) := by
  unfold Station.enterEvacuation
  by_cases hb : b = .empty
  · simp only [Causes.isEmpty, hb, decide_true, if_true]
    exact .cleared (by simp) rfl htrace
  · simp only [Causes.isEmpty, hb, decide_false, Bool.false_eq_true, if_false]
    exact ⟨fun _ => by simp [CausesFit, union_ne_empty hb], by rw [← htrace]; exact id⟩

theorem StationFit.toReleasing {st st' : Station} (htrace : st'.trace = st.trace) : StationFit st st'.toReleasing :=
  .cleared (by simp [Station.toReleasing]) rfl htrace

theorem StationFit.suspended {st st' : Station} (c : Causes) (hc : c ≠ .empty) (hstate : st'.state = .suspended)
    (hcauses : st'.causes = st.causes.union c) (htrace : st'.trace = st.trace) : StationFit st st' :=
  ⟨fun _ => by simp [CausesFit, hstate, hcauses, union_ne_empty hc], by rw [htrace]; exact id⟩

theorem StationFit.elapse (n : Nat) (st : Station) : StationFit st (st.elapse n) := by
  unfold Station.elapse; split <;> exact .same rfl rfl rfl

theorem StationFit.seePresence (i : StationNo) (x : Scan) (st : Station) : StationFit st (st.seePresence i x) := by
  unfold Station.seePresence; split <;> exact .same rfl rfl rfl

/-- R57: a trace ring stays within its 32 entries. -/
theorem pushTrace_length {x : TraceEntry} {ring : List TraceEntry} (h : ring.length ≤ 32) : (pushTrace x ring).length ≤ 32 := by
  unfold pushTrace; split
  · rename_i hroom
    simp [Config.traceRingSize] at hroom ⊢; omega
  · simp [Config.traceRingSize] at *; omega

theorem sampleTrace_fit (n now flow : Nat) (st : Station) : StationFit st (st.sampleTrace n now flow) := by
  unfold Station.sampleTrace; split
  · exact ⟨id, pushTrace_length⟩
  · exact .same rfl rfl rfl

theorem testVacuum_fit {target : Nat} {st : Station} (h : st.state ≠ .suspended) : StationFit st (st.testVacuum target) := by
  unfold Station.testVacuum; split
  · exact .moved h (by simp) rfl id
  · exact .refl st

/-! ### The chamber (R115, R99, R77, R78) -/

/-- R115: the residues of the charge that runs and of the history. -/
def ResiduesIn (c : Chamber) : Prop := c.standing.residue < 100000 ∧ ∀ r ∈ c.history, r.residue < 100000

/-- R78: a window that is legal for its period. -/
def LegalWindow (c : ChamberSettings) : Prop :=
  16 ≤ c.s ∧ c.s + 64 ≤ c.e ∧ c.e + 32 ≤ (c.x + 1) * c.b ∧ c.s % 8 = 0 ∧ c.e % 8 = 0

/-- R77: the ranges of staged settings. -/
def StagedRanges (c : ChamberSettings) : Prop := 256 ≤ c.b ∧ c.b ≤ 16384 ∧ c.x ≤ 15 ∧ 1 ≤ c.k ∧ c.k ≤ 8

/-- R78: the legal window, for every B of at least 256. -/
theorem legalised_legal {c : ChamberSettings} (h : 256 ≤ c.b) : LegalWindow c.legalised := by
  have hperiod : 256 ≤ (c.x + 1) * c.b := Nat.le_trans h (Nat.le_mul_of_pos_left _ (by omega))
  unfold ChamberSettings.legalised legalEnd legalStart floor8 ChamberSettings.period
  generalize hp : (c.x + 1) * c.b = p at hperiod
  extract_lets q start stop
  have hstart : 16 ≤ start ∧ start % 8 = 0 := by simp only [start]; omega
  have hstop : stop + 32 ≤ p ∧ stop % 8 = 0 := by simp only [stop, q]; split <;> omega
  simp only [LegalWindow]
  split
  · split <;> simp only [hp, q] at * <;> omega
  · simp only [hp]; omega

/-- R78: a window that is legal already is kept. -/
theorem legalised_of_legal {c : ChamberSettings} (h : LegalWindow c) : c.legalised = c := by
  obtain ⟨hs, hse, hep, hs8, he8⟩ := h
  have hstart : legalStart c.s = c.s := by unfold legalStart floor8; omega
  have hend : legalEnd c.period c.e = c.e := by
    unfold legalEnd floor8 ChamberSettings.period; split <;> omega
  simp [ChamberSettings.legalised, hstart, hend, Nat.not_lt.mpr hse]

/-- R78: legalising changes the window alone. -/
theorem legalised_eq (c : ChamberSettings) : c.legalised = { c with s := c.legalised.s, e := c.legalised.e } := by
  unfold ChamberSettings.legalised; extract_lets
  split
  · split <;> rfl
  · rfl

/-- What is kept of the chamber's record. -/
structure ChamberFit (c c' : Chamber) : Prop where
  residues : ResiduesIn c → ResiduesIn c'
  window : StagedRanges c.staged ∧ LegalWindow c.inForce → StagedRanges c'.staged ∧ LegalWindow c'.inForce
  history : c.history.length ≤ 16 → c'.history.length ≤ 16

theorem ChamberFit.refl (c : Chamber) : ChamberFit c c := ⟨id, id, id⟩

theorem ChamberFit.trans {a b c : Chamber} (h : ChamberFit a b) (h' : ChamberFit b c) : ChamberFit a c :=
  ⟨h'.residues ∘ h.residues, h'.window ∘ h.window, h'.history ∘ h.history⟩

/-- A change of the standing alone fits when the residue of the charge that runs afterwards is in range. -/
theorem ChamberFit.standing {c c' : Chamber} (hstanding : ResiduesIn c → c'.standing.residue < 100000)
    (hstaged : c'.staged = c.staged) (hforce : c'.inForce = c.inForce) (hhistory : c'.history = c.history) :
    ChamberFit c c' :=
  ⟨fun h => ⟨hstanding h, by rw [hhistory]; exact h.2⟩, by rw [hstaged, hforce]; exact id, by rw [hhistory]; exact id⟩

/-- A change outside the standing, the settings and the history fits. -/
theorem ChamberFit.same {c c' : Chamber} (hstanding : c'.standing = c.standing) (hstaged : c'.staged = c.staged)
    (hforce : c'.inForce = c.inForce) (hhistory : c'.history = c.history) : ChamberFit c c' :=
  .standing (fun h => by rw [hstanding]; exact h.1) hstaged hforce hhistory

/-- R99: the history stays within its 16 records. -/
theorem enterHistory_length {r : ChargeRecord} {l : List ChargeRecord} (h : l.length ≤ 16) :
    (enterHistory r l).length ≤ 16 := by
  unfold enterHistory; split
  · rename_i hroom
    simp [Config.historySize] at hroom ⊢; omega
  · simp [Config.historySize] at *; omega

theorem mem_enterHistory {r x : ChargeRecord} {l : List ChargeRecord} (h : x ∈ enterHistory r l) : x ∈ l ∨ x = r := by
  unfold enterHistory at h
  split at h <;> simp only [List.mem_append, List.mem_singleton] at h
  · exact h
  · exact h.imp List.mem_of_mem_drop id

theorem ChamberFit.enter {c : Chamber} {r : ChargeRecord} (h : ResiduesIn c → r.residue < 100000) :
    ChamberFit c { c with history := enterHistory r c.history } :=
  ⟨fun hc => ⟨hc.1, fun x hx => by
      rcases mem_enterHistory hx with hx | rfl
      · exact hc.2 x hx
      · exact h hc⟩,
    id, enterHistory_length⟩

theorem updateBaseline_eq (b : Bool) (c : Charge) (n : Nat) (ch : Chamber) :
    ∃ base high, ch.updateBaseline b c n = { ch with baseline := base, baselineHigh := high } := by
  unfold Chamber.updateBaseline; split
  · exact ⟨_, _, rfl⟩
  · exact ⟨_, _, rfl⟩

theorem ChamberFit.updateBaseline (b : Bool) (c : Charge) (n : Nat) (ch : Chamber) :
    ChamberFit ch (ch.updateBaseline b c n) := by
  obtain ⟨_, _, e⟩ := updateBaseline_eq b c n ch
  rw [e]; exact .same rfl rfl rfl rfl

theorem standing_elapse_residue (n : Nat) (x : ChamberStanding) : (x.elapse n).residue = x.residue := by
  unfold ChamberStanding.elapse
  split
  · split <;> rfl
  · rfl

/-! ### The Unit Table (R1) -/

/-- R1: the tags of the records are distinct and none is 0. -/
def TagsIn (l : List UnitRecord) : Prop := (l.map (·.tag)).Nodup ∧ ∀ u ∈ l, u.tag ≠ 0

/-- What is kept of the Unit Table. -/
structure UnitsFit (l l' : List UnitRecord) : Prop where
  tags : TagsIn l → TagsIn l'
  room : l.length ≤ 64 → l'.length ≤ 64

theorem UnitsFit.refl (l : List UnitRecord) : UnitsFit l l := ⟨id, id⟩

theorem UnitsFit.trans {a b c : List UnitRecord} (h : UnitsFit a b) (h' : UnitsFit b c) : UnitsFit a c :=
  ⟨h'.tags ∘ h.tags, h'.room ∘ h.room⟩

/-- Records changed one by one under their tags. -/
theorem UnitsFit.map {l : List UnitRecord} {f : UnitRecord → UnitRecord} (h : ∀ u, (f u).tag = u.tag) :
    UnitsFit l (l.map f) where
  tags hl := by
    refine ⟨?_, fun v hv => ?_⟩
    · rw [List.map_map]
      have : (·.tag) ∘ f = (·.tag) := funext h
      rw [this]; exact hl.1
    · obtain ⟨u, hu, rfl⟩ := List.mem_map.mp hv
      rw [h]; exact hl.2 u hu
  room := by simp

/-- Records freed. -/
theorem UnitsFit.filter {l : List UnitRecord} {p : UnitRecord → Bool} : UnitsFit l (l.filter p) where
  tags hl := ⟨hl.1.sublist (List.filter_sublist.map _), fun u hu => hl.2 u (List.mem_filter.mp hu).1⟩
  room h := Nat.le_trans (List.length_filter_le _ _) h

theorem nodup_snoc {α : Type} {l : List α} {a : α} (h : l.Nodup) (ha : a ∉ l) : (l ++ [a]).Nodup := by
  refine List.nodup_append.mpr ⟨h, by simp, fun b hb c hc e => ha ?_⟩
  rw [← List.mem_singleton.mp hc, ← e]
  exact hb

/-- A record created under a tag above 0 that is not held, in a table with room. -/
theorem UnitsFit.append {l : List UnitRecord} {u : UnitRecord} (hzero : u.tag ≠ 0) (hnew : ∀ v ∈ l, v.tag ≠ u.tag)
    (hroom : l.length < 64) : UnitsFit l (l ++ [u]) where
  tags hl := by
    refine ⟨?_, fun v hv => ?_⟩
    · simp only [List.map_append, List.map_cons, List.map_nil]
      refine nodup_snoc hl.1 fun hu => ?_
      obtain ⟨v, hv, hvu⟩ := List.mem_map.mp hu
      exact hnew v hv hvu
    · rcases List.mem_append.mp hv with hv | hv
      · exact hl.2 v hv
      · rw [List.mem_singleton.mp hv]; exact hzero
  room _ := by simp; omega

/-! ### A sound change of the part -/

/-- From `s` to `t` every record that a rule writes is kept fit. -/
structure Sound (s t : State) : Prop where
  stations : ∀ i, StationFit (s.station i) (t.station i)
  chamber : ChamberFit s.chamber t.chamber
  units : UnitsFit s.tracker.units t.tracker.units
  fifo : s.sample.fifo.length ≤ 4096 → t.sample.fifo.length ≤ 4096

section sound
variable {s t u : State}

theorem Sound.refl (s : State) : Sound s s := ⟨fun _ => .refl _, .refl _, .refl _, id⟩

theorem Sound.trans (h : Sound s t) (h' : Sound t u) : Sound s u :=
  ⟨fun i => (h.stations i).trans (h'.stations i), h.chamber.trans h'.chamber, h.units.trans h'.units, h'.fifo ∘ h.fifo⟩

/-- A change of other blocks is sound. -/
theorem Sound.of_differs {k : List Block} (d : Differs k s t) (h : .stations ∉ k := by decide)
    (h' : .chamber ∉ k := by decide) (h'' : .tracker ∉ k := by decide) (h''' : .sample ∉ k := by decide) : Sound s t :=
  ⟨fun i => by rw [d.station i h]; exact .refl _, by rw [d.chamber h']; exact .refl _, by rw [d.tracker h'']; exact .refl _,
    by rw [d.sample h''']; exact id⟩

/-- `Sound.trans` with the later change first, so that the state between is read off the goal. -/
theorem Sound.after (h' : Sound t u) (h : Sound s t) : Sound s u := h.trans h'

theorem Sound.setStation {i : StationNo} {x : Station} (h : StationFit (s.station i) x) : Sound s (s.setStation i x) :=
  ⟨fun j => by
      rw [State.setStation_station]; split
      · rename_i e; subst e; exact h
      · exact .refl _,
    .refl _, .refl _, id⟩

theorem Sound.setChamber {c : Chamber} (h : ChamberFit s.chamber c) : Sound s (s.setChamber c) :=
  ⟨fun _ => .refl _, h, .refl _, id⟩

theorem Sound.setTracker {x : Tracker} (h : UnitsFit s.tracker.units x.units) : Sound s (s.setTracker x) :=
  ⟨fun _ => .refl _, .refl _, h, id⟩

theorem Sound.setSample {x : SampleStream} (h : s.sample.fifo.length ≤ 4096 → x.fifo.length ≤ 4096) :
    Sound s (s.setSample x) :=
  ⟨fun _ => .refl _, .refl _, .refl _, h⟩

theorem Sound.raise {n : Notice} : Sound s (s.raise n) := .of_differs raise_differs
theorem Sound.note {before : Vector Station 4} : Sound s (s.noteStations before) := .of_differs noteStations_differs

theorem Sound.foldl {α : Type} {f : State → α → State} (h : ∀ t a, Sound t (f t a)) (xs : List α) (s : State) :
    Sound s (xs.foldl f s) := by
  induction xs generalizing s with
  | nil => exact .refl s
  | cons x xs ih => exact (h s x).trans (ih _)

/-- What is done for the unit that a station holds, if it holds one. -/
theorem Sound.ofUnit {o : Option Nat} {f : Nat → State} (h : ∀ n, Sound s (f n)) :
    Sound s (match o with
      | none => s
      | some n => f n) := by
  cases o
  · exact .refl _
  · exact h _

end sound

/-! ### Units and stations -/

section units
variable {s : State}

theorem modifyUnit_sound {tag : Nat} {f : UnitRecord → UnitRecord} (h : ∀ u, u.tag = tag → (f u).tag = u.tag) :
    Sound s (s.modifyUnit tag f) :=
  .setTracker (.map fun u => by
    split
    · exact h u ‹_›
    · rfl)

theorem freeUnit_sound {tag : Nat} : Sound s (s.freeUnit tag) := .setTracker .filter

@[simp] theorem report_tag (a : Anomaly) (u : UnitRecord) : (u.report a).tag = u.tag := by
  unfold UnitRecord.report; dsimp only; repeat' split
  all_goals rfl

theorem reportAnomaly_sound {tag : Nat} {a : Anomaly} : Sound s (s.reportAnomaly tag a) :=
  modifyUnit_sound fun u _ => by split <;> simp

theorem reportFrom_sound {o : Option Nat} {a : Anomaly} : Sound s (s.reportFrom o a) := by
  cases o
  · exact .refl _
  · exact reportAnomaly_sound

theorem reportCycleStart_sound {tag : Nat} : Sound s (s.reportCycleStart tag) :=
  modifyUnit_sound fun u _ => by split <;> rfl

theorem handResult_sound {tag : Nat} {d : DegasResult} : Sound s (s.handResult tag d) :=
  modifyUnit_sound fun u _ => by split <;> rfl

theorem handCause_sound {c : Causes} (hc : c ≠ .empty) {f : Family} {i : StationNo} : Sound s (s.handCause c f i) := by
  unfold State.handCause; dsimp only; split
  · exact .setStation (.suspended c hc rfl rfl rfl)
  · exact .refl _

theorem handCauseToAll_sound {c : Causes} (hc : c ≠ .empty) {f : Family} : Sound s (s.handCauseToAll c f) :=
  .foldl (fun _ _ => handCause_sound hc) _ s

/-- R42: a cause removed leaves another cause, or the entry check decides. -/
theorem removeCause_sound {c : Causes} {i : StationNo} : Sound s (s.removeCause c i) := by
  unfold State.removeCause; dsimp only; split
  · rename_i hstate
    split
    · rw [State.entryCheck, State.setStation_station_self]
      refine ⟨fun j => ?_, .refl _, .refl _, id⟩
      rw [State.setStation_station, State.setStation_station]
      split
      · rename_i e; subst e
        exact .enterEvacuation _ rfl
      · exact .refl _
    · rename_i hleft
      exact .setStation ⟨fun _ => by simpa [CausesFit, hstate, Causes.isEmpty] using hleft, id⟩
  · exact .refl _

theorem removeReceiverCause_sound {f : Family} : Sound s (s.removeReceiverCause f) :=
  .foldl (fun _ _ => by
    split
    · exact removeCause_sound
    · exact .refl _) _ s

theorem removeTripCause_sound : Sound s s.removeTripCause := .foldl (fun _ _ => removeCause_sound) _ s

theorem releaseWith_sound {i : StationNo} {a : Anomaly} : Sound s (s.releaseWith i a) :=
  reportFrom_sound.trans (.setStation (.toReleasing rfl))

/-- R22: the station that an assignment names is IDLE. -/
theorem nextAssignment_idle {tag : Nat} {i : StationNo} (h : s.nextAssignment = some (tag, i)) :
    (s.station i).state = .idle := by
  unfold State.nextAssignment at h
  split at h
  · rename_i hstation _
    simp only [Option.some.injEq, Prod.mk.injEq] at h
    obtain ⟨-, rfl⟩ := h
    simpa using List.find?_some hstation
  · cases h

theorem assign_sound {tag : Nat} {i : StationNo} (h : (s.station i).state = .idle) : Sound s (s.assign tag i) := by
  have hunits : Sound s ((s.setTracker { s.tracker with degasQueue := s.tracker.degasQueue.erase tag }).modifyUnit tag
      fun u => { u with state := .assigned, station := some i }) :=
    .after (modifyUnit_sound fun _ _ => rfl) (.setTracker (.refl _))
  exact .after .raise (.after (.setStation (.moved (st := s.station i) (by simp [h]) (by simp) rfl id)) hunits)

theorem assignUpTo_sound {n : Nat} : Sound s (s.assignUpTo n) := by
  induction n generalizing s with
  | zero => exact .refl _
  | succ n ih =>
    unfold State.assignUpTo; split
    · exact .refl _
    · rename_i hnext
      exact (assign_sound (nextAssignment_idle hnext)).trans ih

theorem arbiterPass_sound : Sound s s.arbiterPass := by
  unfold State.arbiterPass; split
  · exact assignUpTo_sound
  · exact .refl _

end units

/-! ### The chamber, closures and the trip -/

section chamber
variable {s : State}

theorem loadUnits_sound {tags : List Nat} {n : Nat} : Sound s (s.loadUnits tags n) :=
  .setTracker (.map fun u => by split <;> rfl)

theorem applySettings_sound : Sound s s.applySettings := by
  have hset : Sound s (s.setChamber
      { s.chamber with
        counter := nextChargeNumber s.chamber.counter, inForce := s.chamber.staged.legalised, stagingPending := false
        startPending := false }) :=
    .setChamber ⟨id, fun h => ⟨h.1, legalised_legal h.1.1⟩, id⟩
  unfold State.applySettings; dsimp only; split
  · exact hset.trans .raise
  · exact hset

theorem boundary_sound : Sound s s.boundary :=
  .after .raise (.after (.setChamber (.standing (fun _ => Nat.zero_lt_succ 99999) rfl rfl rfl))
    (loadUnits_sound.after applySettings_sound))

theorem mismatchReport_sound {tag : Nat} : Sound s (s.mismatchReport tag) := by
  unfold State.mismatchReport; repeat' split
  · exact .refl _
  · exact .refl _
  · exact .refl _
  · exact .after .raise (.setChamber (.same rfl rfl rfl rfl))

theorem waitingDecision_sound : Sound s s.waitingDecision := by
  unfold State.waitingDecision; repeat' split
  · exact boundary_sound
  · exact .refl _
  · exact boundary_sound
  · exact mismatchReport_sound
  · exact .refl _

theorem joinShredQueue_sound {tag : Nat} : Sound s (s.joinShredQueue tag) := by
  unfold State.joinShredQueue; dsimp only; split
  · exact waitingDecision_sound.after (.setTracker (.refl _))
  · exact .setTracker (.refl _)

theorem leaveShredQueue_sound {tag : Nat} : Sound s (s.leaveShredQueue tag) := by
  unfold State.leaveShredQueue; dsimp only; split
  · exact waitingDecision_sound.after (.setTracker (.refl _))
  · exact .setTracker (.refl _)

theorem atChargeEnd_tag (n : Nat) (f : ChargeFlags) (u : UnitRecord) : (u.atChargeEnd n f).tag = u.tag := by
  unfold UnitRecord.atChargeEnd; dsimp only; repeat' split
  all_goals simp

theorem findUnit_tag {tag : Nat} {u : UnitRecord} (h : s.findUnit tag = some u) : u.tag = tag := by
  simpa using List.find?_some h

theorem closeUnit_sound {r : ChargeRecord} {x : Nat × Nat} : Sound s (s.closeUnit r x) := by
  unfold State.closeUnit; split
  · exact .refl _
  · rename_i u hu
    split
    · refine .after .raise (.after (.of_differs setShift_differs) (.after (.setTracker (.refl _))
        (modifyUnit_sound fun v hv => ?_)))
      simp [atChargeEnd_tag, hv, findUnit_tag hu]
    · exact .refl _

theorem closeUnits_sound {r : ChargeRecord} {xs : List (Nat × Nat)} : Sound s (s.closeUnits r xs) :=
  .foldl (fun _ _ => closeUnit_sound) xs s

/-- R94: a charge whose residue is in range enters the history with it. -/
theorem endCharge_sound {b : Bool} {c : Charge} (hc : ResiduesIn s.chamber → c.residue < 100000) :
    Sound s (s.endCharge b c) := by
  unfold State.endCharge; extract_lets _ flags mass r t u v
  have htu : Sound s u := .after (.of_differs setShift_differs) (.setChamber (.updateBaseline ..))
  have hcv : v.chamber = s.chamber.updateBaseline b c s.maximumBaseline :=
    (closeUnits_differs.chamber : v.chamber = u.chamber)
  refine .after .raise (.after (.setChamber (.enter fun h => ?_)) (htu.trans closeUnits_sound))
  change c.residue < 100000
  obtain ⟨_, _, e⟩ := updateBaseline_eq b c s.maximumBaseline s.chamber
  rw [hcv, e] at h
  exact hc h

theorem endNormally_sound {c : Charge} (hc : ResiduesIn s.chamber → c.residue < 100000) : Sound s (s.endNormally c) := by
  unfold State.endNormally; dsimp only; split
  · exact (endCharge_sound hc).trans (.setChamber (.standing (fun _ => Nat.zero_lt_succ _) rfl rfl rfl))
  · exact waitingDecision_sound.after
      (.after (.setChamber (.standing (fun _ => Nat.zero_lt_succ _) rfl rfl rfl)) (endCharge_sound hc))

theorem charge_residue {c : Charge} (h : s.chamber.standing = .charging c) : ResiduesIn s.chamber → c.residue < 100000 := by
  intro hr
  have := hr.1
  rwa [h] at this

theorem haltChamber_sound : Sound s s.haltChamber := by
  unfold State.haltChamber; extract_lets t
  have ht : Sound s t := by
    unfold t; split
    · rename_i hstanding
      exact endCharge_sound (charge_residue hstanding)
    · exact .refl _
  exact ht.trans (.setChamber (.standing (fun _ => Nat.zero_lt_succ _) rfl rfl rfl))

theorem tripEntry_sound {a : TripCauses} : Sound s (s.tripEntry a) :=
  .after .note (.after (handCauseToAll_sound (by decide)) (haltChamber_sound.after (.after .raise
    (.after (.of_differs setShift_differs) (.after (.of_differs setProtection_differs) (.of_differs setMode_differs))))))

theorem addCauses_sound {a : TripCauses} : Sound s (s.addCauses a) := by
  unfold State.addCauses; repeat' split
  · exact .refl _
  · exact tripEntry_sound
  · exact .of_differs joinCauses_differs

end chamber

/-! ### Published scans at their consumers, and the stations' timed ends -/

section scans
variable {s : State}

theorem unitRemoved_sound {tag : Nat} : Sound s (s.unitRemoved tag) := by
  unfold State.unitRemoved; repeat' split
  · exact .refl _
  · exact joinShredQueue_sound.after (modifyUnit_sound fun _ _ => rfl)
  · exact .refl _

theorem unitPulled_sound {tag : Nat} {d : DegasResult} : Sound s (s.unitPulled tag d) := by
  unfold State.unitPulled; repeat' split
  · exact .refl _
  · exact joinShredQueue_sound.after (modifyUnit_sound fun _ _ => rfl)
  · exact .refl _

theorem removeAppliance_sound {i : StationNo} (h : (s.station i).state = .unloading) : Sound s (s.removeAppliance i) := by
  unfold State.removeAppliance; extract_lets t st
  have ht : Sound s t := .ofUnit fun _ => unitRemoved_sound
  have hd : Differs [.tracker, .chamber, .notices] s t := .ofUnit fun _ => unitRemoved_differs
  have hst : st.state = .unloading := by rw [← h, ← hd.station i]
  split
  · exact arbiterPass_sound.after (.after (.setStation (.moved (st := st) (by simp [hst]) (by simp) rfl id)) ht)
  · exact ht.trans (.setStation (.moved (st := st) (by simp [hst]) (by simp) rfl id))

theorem pull_sound {i : StationNo} : Sound s (s.pull i) :=
  .after (.setStation (.cleared (by simp) rfl rfl)) (.after (.ofUnit fun _ => unitPulled_sound) reportFrom_sound)

theorem loseSignal_sound {i : StationNo} : Sound s (s.loseSignal i) :=
  reportFrom_sound.trans (.setStation (.cleared (by simp [Station.toReleasing]) rfl rfl))

theorem arrive_sound {i : StationNo} {x : Scan} (h : (s.station i).state = .assigned) : Sound s (s.arrive i x) := by
  unfold State.arrive; extract_lets t u
  have ht : Sound s t := .setStation (.moved (by simp [h]) (by simp [Station.beginCycle]) rfl (by simp [Station.beginCycle]))
  have hu : Sound s u := ht.trans (.ofUnit fun _ => reportCycleStart_sound)
  split
  · exact hu.trans loseSignal_sound
  · exact hu

theorem evacuate_sound {i : StationNo} {x : Scan} (h : (s.station i).state = .evacuating) : Sound s (s.evacuate i x) := by
  unfold State.evacuate; extract_lets flow increment st st' st''
  have hst' : StationFit (s.station i) st' := .same rfl rfl rfl
  have hfit : StationFit (s.station i) st'' :=
    (hst'.trans (sampleTrace_fit ..)).trans (testVacuum_fit (by
      unfold Station.sampleTrace
      split <;> simp [st', st, h]))
  exact .after (.of_differs deliver_differs) (.setStation hfit)

theorem runCycle_sound {i : StationNo} {x : Scan} : Sound s (s.runCycle i x) := by
  unfold State.runCycle; dsimp only
  split
  case h_4 h =>
    split
    · exact loseSignal_sound
    · exact evacuate_sound h
  case h_5 => exact .refl _
  all_goals
    split
    · exact loseSignal_sound
    · exact .setStation (.same rfl rfl rfl)

theorem presenceRise_sound {i : StationNo} {x : Scan} : Sound s (s.presenceRise i x) := by
  unfold State.presenceRise; split
  case h_1 h => exact arrive_sound h
  case h_5 => exact runCycle_sound
  all_goals exact .raise

theorem fallInCycle_sound {i : StationNo} {x : Scan} : Sound s (s.fallInCycle i x) := by
  unfold State.fallInCycle; split
  · exact loseSignal_sound.trans pull_sound
  · exact pull_sound

theorem presenceFall_sound {i : StationNo} {x : Scan} : Sound s (s.presenceFall i x) := by
  unfold State.presenceFall; split
  case h_1 h => exact removeAppliance_sound h
  case h_6 => exact pull_sound
  case h_7 => exact .refl _
  all_goals exact fallInCycle_sound

theorem stationScan_sound {i : StationNo} {x : Scan} : Sound s (s.stationScan i x) := by
  unfold State.stationScan; dsimp only
  have hseen : Sound s (s.setStation i ((s.station i).seePresence i x)) := .setStation (.seePresence i x _)
  refine .after .note (hseen.trans ?_)
  split
  · exact presenceRise_sound
  · exact presenceFall_sound
  · exact runCycle_sound

theorem receiverScan_sound {f : Family} {x : Scan} : Sound s (s.receiverScan f x) := by
  have hweighed : Sound s (s.setReceiver f ((s.receiver f).weigh (x.role (roleReceiverWeight f)))) :=
    .of_differs setReceiver_differs
  refine hweighed.trans ?_
  unfold State.receiverScan State.detectFill; dsimp only; repeat' split
  · exact .after .raise (.after .note (.after (handCauseToAll_sound (by decide)) (.of_differs setReceiver_differs)))
  · exact .refl _
  · exact .refl _

theorem protectionScan_sound {x : Scan} : Sound s (s.protectionScan x) :=
  addCauses_sound.after (.of_differs measureHold_differs)

/-- A charge whose residue is in range replaces the one that runs. -/
theorem setCharge_sound {c : Charge} (hc : ResiduesIn s.chamber → c.residue < 100000) : Sound s (s.setCharge c) :=
  .setChamber (.standing hc rfl rfl rfl)

theorem addProduct_residue (n : Nat) (c : Charge) : (c.addProduct n).residue < 100000 := by
  simp only [Charge.addProduct]; omega

theorem noteClamp_residue (b : Bool) (c : Charge) : (c.noteClamp b).residue = c.residue := by
  unfold Charge.noteClamp; split <;> rfl

/-- R115: an integrated scan leaves a residue in range. -/
theorem integrate_residue (d : Nat) (x : Scan) (c : Charge) : (c.integrate d x).residue < 100000 := by
  unfold Charge.integrate; extract_lets
  rw [noteClamp_residue]
  exact addProduct_residue _ _

theorem sumTail_residue (m : Family) (x : Scan) (c : Charge) : (c.sumTail m x).residue = c.residue := by
  unfold Charge.sumTail; dsimp only; split
  · rfl
  · rw [noteClamp_residue]

theorem afterInertCheck_residue (b : Bool) (c : Charge) : (c.afterInertCheck b).residue = c.residue := by
  unfold Charge.afterInertCheck; repeat' split
  all_goals rfl

section charge
variable {c : Charge} {x : Scan} (hc : ResiduesIn s.chamber → c.residue < 100000)
include hc

theorem loadScan_sound : Sound s (s.loadScan c x) := by
  unfold State.loadScan; dsimp only; repeat' split
  · exact setCharge_sound hc
  · exact setCharge_sound (by rw [afterInertCheck_residue]; exact hc)
  · exact setCharge_sound hc

theorem integrateThen_sound {next : Charge → State → State} (hn : ∀ d : Charge, d.residue < 100000 → Sound s (next d s)) :
    Sound s (s.integrateThen c x next) := by
  unfold State.integrateThen; split
  · exact addCauses_sound.after (setCharge_sound hc)
  · exact hn _ (integrate_residue _ _ _)

theorem windowScan_sound : Sound s (s.windowScan c) := by
  unfold State.windowScan; dsimp only; split <;> exact setCharge_sound hc

theorem ventScan_sound : Sound s (s.ventScan x c) := by
  unfold State.ventScan; split
  · exact endNormally_sound hc
  · exact setCharge_sound hc

theorem tailScan_sound : Sound s (s.tailScan c x) := by
  have hsum : ResiduesIn s.chamber → (c.sumTail s.chamber.inForce.mode x).residue < 100000 := by
    rw [sumTail_residue]; exact hc
  unfold State.tailScan; dsimp only; repeat' split
  · exact addCauses_sound.after (setCharge_sound hsum)
  · exact endNormally_sound hsum
  · exact setCharge_sound hsum
  · exact setCharge_sound hsum

end charge

theorem chamberScan_sound {x : Scan} : Sound s (s.chamberScan x) := by
  unfold State.chamberScan; split
  · rename_i c hstanding
    have hc := charge_residue hstanding
    split
    · exact loadScan_sound hc
    · exact setCharge_sound (by rw [afterInertCheck_residue]; exact hc)
    · exact integrateThen_sound hc fun d hd => windowScan_sound fun _ => hd
    · exact tailScan_sound hc
    · exact integrateThen_sound hc fun d hd => ventScan_sound fun _ => hd
  · exact .refl _

theorem testThreshold_sound {n : Nat} : Sound s (s.testThreshold n) := by
  unfold State.testThreshold; dsimp only; split
  · exact .after .raise (.setSample id)
  · exact .refl _

/-- R175: a scan is appended only where it leaves the FIFO within its capacity. -/
theorem writeScan_sound {x : Scan} : Sound s (s.writeScan x) := by
  unfold State.writeScan; dsimp only; repeat' split
  · exact .refl _
  · rename_i hroom
    refine testThreshold_sound.after (.setSample fun _ => ?_)
    simpa [Config.sampleFifoSize] using hroom
  · exact .of_differs setFlag_differs

theorem entryCheck_sound {i : StationNo} : Sound s (s.entryCheck i) := .setStation (.enterEvacuation _ rfl)

theorem pierceEnd_sound {i : StationNo} : Sound s (s.pierceEnd i) := by
  unfold State.pierceEnd; split
  · exact releaseWith_sound
  · exact entryCheck_sound.after (.setStation (.same rfl rfl rfl))

theorem holdEnd_sound {i : StationNo} : Sound s (s.holdEnd i) := by
  have hrise {o : Option Int} : Sound s (s.setStation i { s.station i with lastRise := o }) :=
    .setStation (.same rfl rfl rfl)
  unfold State.holdEnd; dsimp only; repeat' split
  · exact entryCheck_sound.after (.after (.setStation (.same rfl rfl rfl)) hrise)
  · exact releaseWith_sound.after hrise
  · exact .after (.setStation (.toReleasing rfl)) hrise

theorem releaseEnd_sound {i : StationNo} (h : (s.station i).state = .releasing) : Sound s (s.releaseEnd i) := by
  unfold State.releaseEnd; extract_lets st t
  have ht : Sound s t := .ofUnit fun _ => handResult_sound
  have hd : Differs [.tracker] s t := .ofUnit fun _ => handResult_differs
  exact ht.trans (.setStation (.moved (by simp [hd.station, h]) (by simp) rfl id))

theorem elapse_sound (n : Nat) : Sound s (s.elapse n) :=
  ⟨fun i => by rw [State.elapse_station]; exact .elapse n _,
    .standing (fun h => Nat.lt_of_le_of_lt (Nat.le_of_eq (standing_elapse_residue n _)) h.1) rfl rfl rfl, .refl _, id⟩

end scans

/-! ### Requests handled by their owners -/

section requests
variable {s : State}

theorem handleAdmit_sound {o : AdmitOperands} : Sound s (handleAdmit o s).1 := by
  unfold handleAdmit; split
  · exact .refl _
  · split
    · exact .refl _
    · rename_i c _
      split
      · exact .refl _
      · split
        · exact .refl _
        · split
          · exact .refl _
          · rename_i hgrounds hnew hroom
            have hzero : o.tag ≠ 0 := by
              intro h0; simp [h0] at hgrounds
            have hfit {x : UnitState} {n : Nat} :
                UnitsFit s.tracker.units (s.tracker.units ++ [newUnit o n x]) :=
              .append hzero
                (fun v hv hvt => hnew (by simpa [State.findUnit, List.find?_isSome] using ⟨v, hv, hvt⟩))
                (by simpa [Config.unitTableSize] using hroom)
            refine .after .note (arbiterPass_sound.after ?_)
            unfold State.createUnit; dsimp only; split
            · exact .after (.setTracker (.refl _)) (.setTracker hfit)
            · exact joinShredQueue_sound.after (.setTracker hfit)

theorem handleWithdraw_sound {n : Nat} : Sound s (handleWithdraw n s).1 := by
  unfold handleWithdraw; repeat' split
  · exact .refl _
  · exact freeUnit_sound.after (.setTracker (.refl _))
  · rename_i u _ _ _
    have hrelease : Sound s (s.releaseStation u) := by
      unfold State.releaseStation; split
      · exact .refl _
      · exact .setStation (.cleared (by simp [Station.release]) rfl rfl)
    exact .after .note (arbiterPass_sound.after (freeUnit_sound.after hrelease))
  · exact leaveShredQueue_sound.after freeUnit_sound
  · exact .refl _

theorem handleSuspend_sound {i : StationNo} : Sound s (handleSuspend i s).1 := by
  unfold handleSuspend; dsimp only; split
  · exact .refl _
  · split
    · exact .after .note (.setStation (.suspended .ofRequested (by decide) rfl rfl rfl))
    · rename_i hstate
      split
      · exact .refl _
      · exact .after .note (.setStation (.suspended .ofRequested (by decide) hstate rfl rfl))
    · exact .refl _

theorem returnToService_sound {i : StationNo} (h : (s.station i).state ≠ .suspended) : Sound s (s.returnToService i) :=
  arbiterPass_sound.after (.setStation (.moved h (by simp) rfl id))

theorem beginCylinder_sound {f : Family} {c : Cylinder} : Sound s (s.beginCylinder f c) :=
  .after .note (arbiterPass_sound.after (.after .raise (.after .note
    (removeReceiverCause_sound.after (.of_differs setReceiver_differs)))))

theorem clearChamber_sound : Sound s s.clearChamber := by
  unfold State.clearChamber; split
  · exact .setChamber (.standing (fun _ => Nat.zero_lt_succ _) rfl rfl rfl)
  · exact .refl _

theorem clearTrip_sound : Sound s s.clearTrip := by
  exact .after .note (arbiterPass_sound.after (.after .raise (.after .note (removeTripCause_sound.after
    (clearChamber_sound.after (.after (.of_differs setMode_differs) (.of_differs setProtection_differs)))))))

theorem lineRestart_sound : Sound s s.lineRestart := by
  refine .after .note ⟨fun i => ?_, ?_, .filter, fun _ => Nat.zero_le _⟩
  · have : StationFit (s.station i) (s.station i).restart :=
      .cleared (by simp only [Station.restart]; split <;> simp) rfl rfl
    simpa [State.station] using this
  · exact ⟨fun _ => ⟨Nat.zero_lt_succ _, by simp [Chamber.restart]⟩, id, fun _ => Nat.zero_le _⟩

theorem handleStage_sound {o : SettingsOperands} : Sound s (handleStage o s).1 := by
  unfold handleStage; repeat' split
  · exact .refl _
  · exact .refl _
  · refine waitingDecision_sound.after (.setChamber ⟨id, fun h => ⟨?_, h.2⟩, id⟩)
    simp only [StagedRanges, SettingsOperands.clamped, clampInto]
    omega
  · exact .refl _

theorem handleStart_sound : Sound s (handleStart s).1 := by
  unfold handleStart; repeat' split
  · exact .refl _
  · exact boundary_sound.after (.setChamber (.same rfl rfl rfl rfl))
  · exact .refl _
  · exact .refl _

theorem handleStop_sound : Sound s (handleStop s).1 := by
  unfold handleStop; repeat' split
  · exact .setChamber (.standing (fun _ => Nat.zero_lt_succ _) rfl rfl rfl)
  · exact .refl _
  · exact .setChamber (.same rfl rfl rfl rfl)
  · exact .refl _

theorem withLayout_sound {α : Type} {o : Option α} {h : α → State → State × Reply} (hk : ∀ a, Sound s (h a s).1) :
    Sound s (withLayout o h s).1 := by
  cases o with
  | none => exact .refl _
  | some a => exact hk a

theorem onStation_sound {n : Nat} {h : StationNo → State → State × Reply} (hk : ∀ i, Sound s (h i s).1) :
    Sound s (onStation n h s).1 := by
  unfold onStation; split
  · exact .refl _
  · exact hk _

/-- Every request's handling is sound. -/
theorem handler_sound {i : Instr} {g : State → State × Reply} (e : handlerOf i = some g) (s : State) : Sound s (g s).1 := by
  have hother (h : Block.stations ∉ touched i) (h' : Block.chamber ∉ touched i) (h'' : Block.tracker ∉ touched i)
      (h''' : Block.sample ∉ touched i) : Sound s (g s).1 := .of_differs (handler_differs e s) h h' h'' h'''
  cases i <;> simp only [handlerOf, Option.some.injEq, reduceCtorEq] at e <;> subst e
  case admitUnit => exact withLayout_sound fun _ => handleAdmit_sound
  case withdrawUnit => exact withLayout_sound fun _ => handleWithdraw_sound
  case takeClosed => exact withLayout_sound fun _ => .setTracker .filter
  case setClassEntry =>
    refine withLayout_sound fun a => ?_
    unfold handleSetClass; repeat' split
    all_goals first
      | exact .refl _
      | exact .setTracker (.refl _)
  case suspendStation => exact withLayout_sound fun _ => onStation_sound fun _ => handleSuspend_sound
  case resumeStation =>
    refine withLayout_sound fun _ => onStation_sound fun _ => ?_
    unfold handleResume; repeat' split
    all_goals first
      | exact .refl _
      | exact .after .note removeCause_sound
  case abortStation =>
    refine withLayout_sound fun _ => onStation_sound fun _ => ?_
    unfold handleAbort; split
    all_goals first
      | exact .refl _
      | exact .after .note releaseWith_sound
  case lockStation =>
    refine withLayout_sound fun _ => onStation_sound fun _ => ?_
    unfold handleLock; split
    case h_1 h => exact .after .note (.setStation (.moved (by simp [h]) (by simp) rfl id))
    case h_2 h => exact .after .note (.setStation (.moved (by simp [h]) (by simp) rfl id))
    all_goals exact .refl _
  case unlockStation =>
    refine withLayout_sound fun _ => onStation_sound fun _ => ?_
    unfold handleUnlock; split
    · rename_i h
      split
      · exact .refl _
      · exact .after .note (returnToService_sound (by simp [h]))
    · exact .refl _
  case resetStation =>
    refine withLayout_sound fun _ => onStation_sound fun _ => ?_
    unfold handleReset; split
    · rename_i h
      exact .after .note (returnToService_sound (by simp [h]))
    · exact .refl _
  case endSwap =>
    refine withLayout_sound fun _ => ?_
    unfold handleEndSwap; dsimp only; repeat' split
    all_goals first
      | exact .refl _
      | exact beginCylinder_sound
  case stageChamberSettings => exact withLayout_sound fun _ => handleStage_sound
  case startChamber => exact withLayout_sound fun _ => handleStart_sound
  case stopChamber => exact withLayout_sound fun _ => handleStop_sound
  case setChamberLimits =>
    refine withLayout_sound fun _ => ?_
    unfold handleSetChamberLimits; repeat' split
    · exact .refl _
    · exact .refl _
    · exact .setChamber (.same rfl rfl rfl rfl)
  case emergencyTrip =>
    refine withLayout_sound fun _ => ?_
    unfold handleEmergencyTrip; repeat' split
    · exact addCauses_sound (a := .ofRequested)
    · exact .refl _
    · exact .of_differs joinCauses_differs
  case clearTrip =>
    refine withLayout_sound fun _ => ?_
    unfold handleClearTrip; repeat' split
    all_goals first
      | exact .refl _
      | exact clearTrip_sound
  case streamControl =>
    refine withLayout_sound fun o => ?_
    unfold handleStream; split
    · exact .refl _
    · refine .setSample fun h => ?_
      unfold SampleStream.control; dsimp only; split <;> simp [SampleStream.flush, h]
  case drainSamples =>
    refine withLayout_sound fun n => ?_
    unfold handleDrain; repeat' split
    · exact .refl _
    · exact .of_differs setFlag_differs
    · refine .setSample fun h => ?_
      simp only [SampleStream.drain, List.length_drop]; omega
  case goOnline =>
    refine withLayout_sound fun _ => ?_
    unfold handleGoOnline; repeat' split
    all_goals first
      | exact .refl _
      | exact .after .note (arbiterPass_sound.after (.of_differs setMode_differs))
  case goOffline =>
    refine withLayout_sound fun _ => ?_
    unfold handleGoOffline; repeat' split
    all_goals first
      | exact .refl _
      | exact .of_differs setMode_differs
  case lineRestart => exact withLayout_sound fun _ => lineRestart_sound
  all_goals exact hother (by simp [touched]) (by simp [touched]) (by simp [touched]) (by simp [touched])

end requests

/-! ### The invariants -/

/-- A property that sound changes keep, said by the plant, is kept by every step. -/
theorem kept_of_sound {P : State → Prop} (reads : Reads plant P) (reset : P State.reset)
    (h : ∀ {s t}, Sound s t → P s → P t) : Kept P :=
  PlantKept.kept
    { reads := reads, reset := reset
      elapse := fun n => h (elapse_sound n)
      handle := fun e => h (handler_sound e _)
      stationScan := fun _ _ => h stationScan_sound
      receiverScan := fun _ _ => h receiverScan_sound
      chamberScan := fun _ => h chamberScan_sound
      protectionScan := fun _ => h protectionScan_sound
      writeScan := fun _ => h writeScan_sound
      pierceEnd := fun _ _ => h pierceEnd_sound
      release := fun _ _ _ => h releaseWith_sound
      holdEnd := fun _ _ => h holdEnd_sound
      releaseEnd := fun _ hx => h (releaseEnd_sound hx)
      expire := fun _ _ _ => h addCauses_sound }

theorem causesHeld_iff (s : State) : s.CausesHeld ↔ ∀ i, CausesFit (s.station i) := Iff.rfl

theorem station_of_same {s t : State} (h : Same .stations s t) (i : StationNo) : t.station i = s.station i := by
  have : t.stations = s.stations := h
  rw [State.station, this]; rfl

/-- Settles O8: every rule leaves a fit cause set. -/
theorem stepKeepsCauses : Obligations.StepKeepsCauses := by
  have kept : Kept State.CausesHeld := kept_of_sound
    (fun s t hb h i => by
      have := station_of_same (hb .stations (by decide)) i
      rw [this]; exact h i)
    (by decide) (fun h hs i => (h.stations i).causes (hs i))
  exact fun _ _ h e => kept.step h e

theorem residuesHeld_kept : Kept State.ResiduesHeld :=
  kept_of_sound
    (fun s t hb h => by
      have : t.chamber = s.chamber := hb .chamber (by decide)
      show ResiduesIn t.chamber
      rw [this]; exact h)
    (by decide) fun h => h.chamber.residues

theorem tagsHeld_kept : Kept State.TagsHeld :=
  kept_of_sound
    (fun s t hb h => by
      have : t.tracker = s.tracker := hb .tracker (by decide)
      show TagsIn t.tracker.units
      rw [this]; exact h)
    (by decide) fun h => h.units.tags

/-- Settles O43: the arithmetic of the legal window, and the settings as every rule keeps them. -/
theorem windowIsMadeLegal : Obligations.WindowIsMadeLegal := by
  have kept : Kept State.WindowHeld :=
    kept_of_sound
      (fun s t hb h => by
        have : t.chamber = s.chamber := hb .chamber (by decide)
        show StagedRanges t.chamber.staged ∧ LegalWindow t.chamber.inForce
        rw [this]; exact h)
      (by decide) fun h => h.chamber.window
  refine ⟨fun c hb => ⟨?_, legalised_eq c, fun h1 h2 h3 h4 h5 => legalised_of_legal ⟨h1, h2, h3, h4, h5⟩⟩,
    fun _ _ h e => kept.step h e⟩
  have hlegal := legalised_legal hb
  have hx : c.legalised.x = c.x := by rw [legalised_eq]
  have hb' : c.legalised.b = c.b := by rw [legalised_eq]
  rwa [LegalWindow, hx, hb'] at hlegal

/-- R1, R57, R99, R172: what `State.Bounded` says of the plant's stores. -/
def PlantBounded (s : State) : Prop :=
  s.tracker.units.length ≤ 64 ∧ (∀ i : StationNo, (s.station i).trace.length ≤ 32) ∧ s.chamber.history.length ≤ 16
    ∧ s.sample.fifo.length ≤ 4096

theorem plantBounded_kept : Kept PlantBounded :=
  kept_of_sound
    (fun s t hb h => by
      have htracker : t.tracker = s.tracker := hb .tracker (by decide)
      have hchamber : t.chamber = s.chamber := hb .chamber (by decide)
      have hsample : t.sample = s.sample := hb .sample (by decide)
      have hstations := station_of_same (hb .stations (by decide))
      simpa only [PlantBounded, htracker, hchamber, hsample, hstations] using h)
    ⟨Nat.zero_le _, by decide, Nat.zero_le _, Nat.zero_le _⟩
    fun h hs => ⟨h.units.room hs.1, fun i => (h.stations i).trace (hs.2.1 i), h.chamber.history hs.2.2.1, h.fifo hs.2.2.2⟩

/-! ### The Link block's stores (R186, R189) -/

/-- R186, R189: what `State.Bounded` says of the Link block's stores. -/
def LinkBounded (s : State) : Prop := s.link.requests.length ≤ 4 ∧ s.link.notices.length ≤ 32

section link
variable {s t : State}

theorem LinkBounded.of_differs {k : List Block} (d : Differs k s t) (hb : .line ∉ k := by decide) (h : LinkBounded s) :
    LinkBounded t :=
  ⟨by rw [d.requests hb]; exact h.1, d.bounded h.2⟩

theorem continueScan_linkBounded (e n : Nat) (h : LinkBounded s) : LinkBounded (s.continueScan e n) := by
  unfold State.continueScan; split <;> exact h

theorem countMiss_differs {n : SlotNo} : Differs [.scanner, .notices] s (s.countMiss n) := by
  unfold State.countMiss; dsimp only; repeat' split
  · exact (setSlot_differs.seq raise_differs).within
  · exact setSlot_differs.within
  · exact .refl _ _

theorem countGood_differs {n : SlotNo} : Differs [.scanner] s (s.countGood n) := by
  unfold State.countGood; dsimp only; split
  · exact setSlot_differs
  · exact .refl _ _

theorem line_not_touched (i : Instr) : Block.line ∉ touched i := by cases i <;> simp [touched]

/-- R186, R189: requests join the queue only where there is room, and notices are raised only within capacity. -/
theorem linkBounded_kept : Kept LinkBounded where
  choose _ _ h := h
  reset _ _ := ⟨Nat.zero_le _, Nat.zero_le _⟩
  settle {s} h := ⟨by simpa using h.1, Nat.le_trans (Link.arbitrate_notices_length _) h.2⟩
  elapse _ h := h
  setRx _ h := h
  setFlag _ h := h
  receive {s} r h := by
    unfold State.receiveRequest; split
    · rename_i hroom
      refine ⟨?_, h.2⟩
      simp [Config.requestQueueSize] at hroom ⊢; omega
    · exact h
  endSending h := h
  dequeue {s} h := ⟨by simp [State.takeFromQueue]; exact Nat.le_succ_of_le h.1, h.2⟩
  answer _ h := h
  taking _ h := h
  note _ := .of_differs noteStations_differs
  handle e := .of_differs (handler_differs e _) (line_not_touched _)
  tickScan {s} _ h := by
    unfold State.tickScan; dsimp only; split
    · exact h
    · exact continueScan_linkBounded _ _ h
  readMissed p h := continueScan_linkBounded _ _ (.of_differs countMiss_differs (h := h))
  readGood p v h :=
    continueScan_linkBounded _ _ (.of_differs (setScanner_differs.seq countGood_differs) (h := h))
  stationScan _ _ := .of_differs stationScan_differs
  receiverScan _ _ := .of_differs receiverScan_differs
  chamberScan _ := .of_differs chamberScan_differs
  protectionScan _ := .of_differs protectionScan_differs
  writeScan _ := .of_differs writeScan_differs
  pierceEnd _ _ := .of_differs pierceEnd_differs
  release _ _ _ := .of_differs releaseWith_differs
  holdEnd _ _ := .of_differs holdEnd_differs
  releaseEnd _ _ := .of_differs releaseEnd_differs
  expire _ _ _ := .of_differs addCauses_differs

end link

theorem bounded_iff (s : State) : s.Bounded ↔ PlantBounded s ∧ LinkBounded s := by
  simp only [State.Bounded, PlantBounded, LinkBounded, and_assoc]

/-- Settles O6: the plant's stores and the Link block's stores, each kept by every step. -/
theorem stepKeepsBounds : Obligations.StepKeepsBounds := by
  intro s t h e
  rw [bounded_iff] at h ⊢
  exact (plantBounded_kept.and linkBounded_kept).step h e

end Sys2Proof.Proofs.Soundness

/-! # The chamber's standing, and the line mode it goes with (R96, R136, R145, R181, R182)

Only a chamber at work changes its standing by itself, and never to HALTED: `Worked`. Under `State.ModeHeld` a chamber at work means
RUNNING, so whatever `Worked` describes keeps the agreement; the trip, its clearing and the mode requests remain. -/

namespace Sys2Proof.Proofs.LineModes
open Sys2Proof Sys2Proof.Machine Sys2Proof.Proofs.Frames Sys2Proof.Proofs.Steps

set_option Elab.async false

/-- The chamber's standing stays, or was at work and is not HALTED afterwards. -/
def Worked (s t : State) : Prop :=
  t.chamber.standing = s.chamber.standing ∨ s.chamber.standing.atWork = true ∧ t.chamber.standing ≠ .halted

section worked
variable {s t u : State}

theorem Worked.refl (s : State) : Worked s s := .inl rfl

theorem Worked.after (h' : Worked t u) (h : Worked s t) : Worked s u := by
  obtain h | ⟨hwork, hhalt⟩ := h
  · rcases h' with h' | h'
    · exact .inl (h'.trans h)
    · rw [h] at h'; exact .inr h'
  · obtain h' | ⟨-, hhalt'⟩ := h'
    · exact .inr ⟨hwork, h' ▸ hhalt⟩
    · exact .inr ⟨hwork, hhalt'⟩

theorem Worked.of_differs {k : List Block} (d : Differs k s t) (h : .chamber ∉ k := by decide) : Worked s t :=
  .inl (by rw [d.chamber h])

theorem Worked.ofUnit {o : Option Nat} {f : Nat → State} (h : ∀ n, Worked s (f n)) :
    Worked s (match o with
      | none => s
      | some n => f n) := by
  cases o
  · exact .refl _
  · exact h _

theorem worked_of_waiting (h : s.chamber.standing = .waiting) (h' : t.chamber.standing ≠ .halted) : Worked s t :=
  .inr ⟨by rw [h]; rfl, h'⟩

theorem worked_of_charging {c : Charge} (h : s.chamber.standing = .charging c) (h' : t.chamber.standing ≠ .halted) :
    Worked s t :=
  .inr ⟨by rw [h]; rfl, h'⟩

/-- R94: a boundary begins a charge. -/
theorem boundary_standing : ∃ c, s.boundary.chamber.standing = .charging c := by
  unfold State.boundary
  exact ⟨_, by rw [State.raise_chamber]; rfl⟩

theorem boundary_not_halted : s.boundary.chamber.standing ≠ .halted := by
  obtain ⟨c, h⟩ := boundary_standing (s := s)
  rw [h]; exact nofun

theorem mismatchReport_standing {tag : Nat} : (s.mismatchReport tag).chamber.standing = s.chamber.standing := by
  unfold State.mismatchReport; repeat' split
  all_goals simp

theorem waitingDecision_worked : Worked s s.waitingDecision := by
  unfold State.waitingDecision; split
  · rename_i hwaiting
    repeat' split
    · exact worked_of_waiting hwaiting boundary_not_halted
    · exact .refl _
    · exact worked_of_waiting hwaiting boundary_not_halted
    · exact .inl mismatchReport_standing
  · exact .refl _

theorem joinShredQueue_worked {tag : Nat} : Worked s (s.joinShredQueue tag) := by
  unfold State.joinShredQueue; dsimp only; split
  · exact waitingDecision_worked.after (.of_differs setTracker_differs)
  · exact .of_differs setTracker_differs

theorem leaveShredQueue_worked {tag : Nat} : Worked s (s.leaveShredQueue tag) := by
  unfold State.leaveShredQueue; dsimp only; split
  · exact waitingDecision_worked.after (.of_differs setTracker_differs)
  · exact .of_differs setTracker_differs

theorem unitRemoved_worked {tag : Nat} : Worked s (s.unitRemoved tag) := by
  unfold State.unitRemoved; repeat' split
  · exact .refl _
  · exact joinShredQueue_worked.after (.of_differs modifyUnit_differs)
  · exact .refl _

theorem unitPulled_worked {tag : Nat} {d : DegasResult} : Worked s (s.unitPulled tag d) := by
  unfold State.unitPulled; repeat' split
  · exact .refl _
  · exact joinShredQueue_worked.after (.of_differs modifyUnit_differs)
  · exact .refl _

theorem removeAppliance_worked {i : StationNo} : Worked s (s.removeAppliance i) := by
  unfold State.removeAppliance; extract_lets t st
  have ht : Worked s t := .ofUnit fun _ => unitRemoved_worked
  split
  · exact .after (.of_differs arbiterPass_differs) (.after (.of_differs setStation_differs) ht)
  · exact .after (.of_differs setStation_differs) ht

theorem pull_worked {i : StationNo} : Worked s (s.pull i) :=
  .after (.of_differs setStation_differs) (.after (.ofUnit fun _ => unitPulled_worked) (.of_differs reportFrom_differs))

theorem fallInCycle_worked {i : StationNo} {x : Scan} : Worked s (s.fallInCycle i x) := by
  unfold State.fallInCycle; split
  · exact pull_worked.after (.of_differs loseSignal_differs)
  · exact pull_worked

theorem presenceFall_worked {i : StationNo} {x : Scan} : Worked s (s.presenceFall i x) := by
  unfold State.presenceFall; split
  case h_1 => exact removeAppliance_worked
  case h_6 => exact pull_worked
  case h_7 => exact .refl _
  all_goals exact fallInCycle_worked

theorem stationScan_worked {i : StationNo} {x : Scan} : Worked s (s.stationScan i x) := by
  have hseen : Worked s (s.setStation i ((s.station i).seePresence i x)) := .of_differs setStation_differs
  unfold State.stationScan; dsimp only
  refine .after (.of_differs noteStations_differs) (.after ?_ hseen)
  split
  · exact .of_differs presenceRise_differs
  · exact presenceFall_worked
  · exact .of_differs runCycle_differs

theorem endCharge_standing {b : Bool} {c : Charge} : (s.endCharge b c).chamber.standing = s.chamber.standing := by
  unfold State.endCharge; extract_lets _ flags mass r t u v
  have hv : v.chamber = s.chamber.updateBaseline b c s.maximumBaseline :=
    (closeUnits_differs.chamber : v.chamber = u.chamber)
  obtain ⟨_, _, e⟩ := Soundness.updateBaseline_eq b c s.maximumBaseline s.chamber
  rw [State.raise_chamber]
  show v.chamber.standing = _
  rw [hv, e]

theorem endNormally_not_halted {c : Charge} : (s.endNormally c).chamber.standing ≠ .halted := by
  unfold State.endNormally; dsimp only; split
  · exact nofun
  · obtain h | ⟨-, h⟩ := waitingDecision_worked
      (s := (s.endCharge false c).setChamber { (s.endCharge false c).chamber with standing := .waiting })
    · rw [h]; exact nofun
    · exact h

theorem ventScan_not_halted {x : Scan} {c : Charge} : (s.ventScan x c).chamber.standing ≠ .halted := by
  unfold State.ventScan; split
  · exact endNormally_not_halted
  · exact nofun

theorem windowScan_not_halted {c : Charge} : (s.windowScan c).chamber.standing ≠ .halted := by
  unfold State.windowScan; dsimp only; split <;> exact nofun

theorem loadScan_not_halted {c : Charge} {x : Scan} : (s.loadScan c x).chamber.standing ≠ .halted := by
  unfold State.loadScan; dsimp only; repeat' split
  all_goals exact nofun

end worked

/-! ### The agreement, and what keeps it -/

section held
variable {s t : State}

/-- A chamber at work is found in RUNNING only. -/
theorem running_of_atWork (h : s.ModeHeld) (hwork : s.chamber.standing.atWork = true) : s.link.mode = .running := by
  obtain ⟨-, htripped, hoffline⟩ := h
  cases hmode : s.link.mode with
  | running => rfl
  | tripped => rw [(htripped hmode).2] at hwork; cases hwork
  | offline => rw [(hoffline hmode).2.2] at hwork; cases hwork

/-- A chamber that works on leaves mode and Protection, and the agreement. -/
theorem ModeHeld.worked (h : s.ModeHeld) (hw : Worked s t) (hmode : t.link.mode = s.link.mode)
    (hprotection : t.protection = s.protection) : t.ModeHeld := by
  obtain hstanding | ⟨hwork, hhalt⟩ := hw
  · simpa only [State.ModeHeld, hmode, hprotection, hstanding] using h
  · have hrun := running_of_atWork h hwork
    have hr := h.1 hrun
    exact ⟨fun _ => ⟨by rw [hprotection]; exact hr.1, by rw [hprotection]; exact hr.2.1, hhalt⟩,
      fun ht => absurd (hmode.symm.trans ht) (by simp [hrun]), fun ht => absurd (hmode.symm.trans ht) (by simp [hrun])⟩

theorem ModeHeld.differs {k : List Block} (h : s.ModeHeld) (d : Differs k s t) (hc : .chamber ∉ k := by decide)
    (hm : .mode ∉ k := by decide) (hp : .protection ∉ k := by decide) : t.ModeHeld :=
  ModeHeld.worked h (.of_differs d hc) (d.mode hm) (d.protection hp)

/-- R142: a trip entry. -/
theorem tripEntry_held {a : TripCauses} (ha : a ≠ .empty) : (s.tripEntry a).ModeHeld := by
  have hd {t u : State} {k : List Block} (d : Differs k t u) (hk : .chamber ∉ k ∧ .mode ∉ k ∧ .protection ∉ k)
      (h : t.link.mode = .tripped ∧ t.protection.causes = a ∧ t.chamber.standing = .halted) :
      u.link.mode = .tripped ∧ u.protection.causes = a ∧ u.chamber.standing = .halted := by
    rwa [d.mode hk.2.1, d.protection hk.2.2, d.chamber hk.1]
  have hhalt {t : State} (h : t.link.mode = .tripped ∧ t.protection.causes = a) :
      t.haltChamber.link.mode = .tripped ∧ t.haltChamber.protection.causes = a
        ∧ t.haltChamber.chamber.standing = .halted := by
    rw [haltChamber_differs.mode, haltChamber_differs.protection]
    exact ⟨h.1, h.2, rfl⟩
  obtain ⟨hmode, hcauses, hstanding⟩ : (s.tripEntry a).link.mode = .tripped ∧ (s.tripEntry a).protection.causes = a
      ∧ (s.tripEntry a).chamber.standing = .halted := by
    unfold State.tripEntry; dsimp only
    refine hd noteStations_differs (by decide) (hd handCauseToAll_differs (by decide) (hhalt ?_))
    rw [raise_differs.mode, raise_differs.protection]
    exact ⟨rfl, rfl⟩
  refine ⟨fun h => ?_, fun _ => ⟨?_, hstanding⟩, fun h => ?_⟩
  · rw [hmode] at h; cases h
  · rw [hcauses]; exact ha
  · rw [hmode] at h; cases h

theorem joinCauses_protection {a : TripCauses} :
    (s.joinCauses a).protection = { s.protection with causes := s.protection.causes.union a } := by
  unfold State.joinCauses; dsimp only; split <;> simp

theorem union_ne_empty_left {a b : TripCauses} (h : a ≠ .empty) : a.union b ≠ .empty := by
  cases a; cases b
  simp_all [TripCauses.union, TripCauses.empty]

theorem isEmpty_iff {a : TripCauses} : a.isEmpty = true ↔ a = .empty := by
  simp [TripCauses.isEmpty]

/-- R143: causes that hold in TRIPPED join the set; in OFFLINE REQUESTED_TRIP alone is recorded. -/
theorem joinCauses_held {a : TripCauses} (hmode : s.link.mode ≠ .running)
    (ha : s.link.mode = .offline → a = .ofRequested) (h : s.ModeHeld) : (s.joinCauses a).ModeHeld := by
  have hm : (s.joinCauses a).link.mode = s.link.mode := joinCauses_differs.mode
  have hc : (s.joinCauses a).chamber = s.chamber := joinCauses_differs.chamber
  obtain ⟨-, htripped, hoffline⟩ := h
  rw [State.ModeHeld, hm, hc, joinCauses_protection]
  refine ⟨fun hr => absurd hr hmode, fun ht => ⟨union_ne_empty_left (htripped ht).1, (htripped ht).2⟩, fun ho => ?_⟩
  obtain ⟨hcauses, hhold, hstanding⟩ := hoffline ho
  refine ⟨.inr ?_, hhold, hstanding⟩
  rw [ha ho]
  rcases hcauses with h | h <;> rw [h] <;> rfl

/-- R142, R143: causes found while the line is not OFFLINE, or REQUESTED_TRIP. -/
theorem addCauses_held {a : TripCauses} (ha : a ≠ .empty → s.link.mode = .offline → a = .ofRequested) (h : s.ModeHeld) :
    (s.addCauses a).ModeHeld := by
  unfold State.addCauses; split
  · exact h
  · rename_i hne
    have hne : a ≠ .empty := mt isEmpty_iff.mpr hne
    split
    · exact tripEntry_held hne
    · rename_i hnot
      refine joinCauses_held (fun hr => hnot ?_) (ha hne) h
      simp [hr, isEmpty_iff, (h.1 hr).1]

/-- R96: what the chamber's own wait or its silent signal finds, it finds at work. -/
theorem addCauses_held_of_charging {a : TripCauses} {c : Charge} (hc : s.chamber.standing = .charging c) (h : s.ModeHeld) :
    (s.addCauses a).ModeHeld :=
  addCauses_held (fun _ ho => by
    have := running_of_atWork h (by rw [hc]; rfl)
    rw [this] at ho; cases ho) h

/-- R138 to R141: at a chamber that is not at work no cause holds. -/
theorem scanCauses_of_not_atWork {x : Scan} (h : s.chamber.standing.atWork = false) : s.scanCauses x = .empty := by
  unfold State.scanCauses State.loadConcAt State.oxygenHighAt State.signalLostScan
  cases hs : s.chamber.standing <;> rw [hs] at h <;> simp_all [ChamberStanding.atWork, ChamberStanding.phase, TripCauses.empty]

theorem measureHold_held {x : Scan} (h : s.ModeHeld) : (s.measureHold x).ModeHeld := by
  unfold State.measureHold; split
  · rename_i hmode
    obtain ⟨-, htripped, -⟩ := h
    refine ⟨fun hr => ?_, fun _ => htripped hmode, fun ho => ?_⟩
    · exact absurd (hmode.symm.trans hr) (by decide)
    · exact absurd (hmode.symm.trans ho) (by decide)
  · exact h

theorem measureHold_protection_of_running {x : Scan} (h : s.link.mode ≠ .tripped) : s.measureHold x = s := by
  simp [State.measureHold, h]

theorem protectionScan_held {x : Scan} (h : s.ModeHeld) : (s.protectionScan x).ModeHeld := by
  refine addCauses_held (fun hne ho => absurd ?_ hne) (measureHold_held h)
  have hm : (s.measureHold x).link.mode = s.link.mode := measureHold_differs.mode
  refine scanCauses_of_not_atWork ?_
  rw [(h.2.2 (hm.symm.trans ho)).2.2]; rfl

theorem chamberScan_held {x : Scan} (h : s.ModeHeld) : (s.chamberScan x).ModeHeld := by
  unfold State.chamberScan; split
  · rename_i c hc
    have kept {t : State} {k : List Block} (d : Differs k s t) (hn : t.chamber.standing ≠ .halted)
        (hk : .mode ∉ k ∧ .protection ∉ k := by decide) : t.ModeHeld :=
      ModeHeld.worked h (worked_of_charging hc hn) (d.mode hk.1) (d.protection hk.2)
    have silent (c : Charge) : ((s.setCharge c).addCauses .ofSignalLost).ModeHeld :=
      addCauses_held_of_charging (c := c) rfl (kept setCharge_differs nofun)
    split
    · exact kept loadScan_differs loadScan_not_halted
    · exact kept setCharge_differs nofun
    · unfold State.integrateThen; split
      · exact silent _
      · exact kept windowScan_differs windowScan_not_halted
    · unfold State.tailScan; dsimp only; repeat' split
      · exact silent _
      · exact kept endNormally_differs endNormally_not_halted
      · exact kept setCharge_differs nofun
      · exact kept setCharge_differs nofun
    · unfold State.integrateThen; split
      · exact silent _
      · exact kept ventScan_differs ventScan_not_halted
  · exact h

/-! ### The requests that move the mode -/

theorem handleStart_held (h : s.ModeHeld) : (handleStart s).1.ModeHeld := by
  unfold handleStart; split
  · exact h
  · rename_i hmode
    have hrun : s.link.mode = .running := by simpa using hmode
    split
    · split
      · obtain ⟨hcauses, hhold, -⟩ := h.1 hrun
        have d : Differs [.tracker, .chamber, .notices] s
            (s.setChamber { s.chamber with startPending := true }).boundary :=
          (setChamber_differs.seq boundary_differs).within
        have hm : (s.setChamber { s.chamber with startPending := true }).boundary.link.mode = .running :=
          d.mode.trans hrun
        refine ⟨fun _ => ⟨by rw [d.protection]; exact hcauses, by rw [d.protection]; exact hhold, boundary_not_halted⟩, ?_, ?_⟩
        · intro ht; rw [hm] at ht; cases ht
        · intro ho; rw [hm] at ho; cases ho
      · exact h
    · exact h

theorem handleStop_worked : Worked s (handleStop s).1 := by
  unfold handleStop; split
  · rename_i hwaiting
    exact worked_of_waiting hwaiting nofun
  · split
    · exact .refl _
    · exact .inl rfl
  · exact .refl _

theorem handleStage_worked {o : SettingsOperands} : Worked s (handleStage o s).1 := by
  unfold handleStage; repeat' split
  · exact .refl _
  · exact .refl _
  · exact waitingDecision_worked.after (.inl rfl)
  · exact .refl _

theorem handleAdmit_worked {o : AdmitOperands} : Worked s (handleAdmit o s).1 := by
  have created {b : Bool} : Worked s (s.createUnit o b) := by
    unfold State.createUnit; dsimp only; split
    · exact .of_differs (setTracker_differs.seq setTracker_differs)
    · exact joinShredQueue_worked.after (.of_differs setTracker_differs)
  unfold handleAdmit; repeat' split
  all_goals first
    | exact .refl _
    | exact .after (.of_differs noteStations_differs) (.after (.of_differs arbiterPass_differs) created)

theorem handleWithdraw_worked {n : Nat} : Worked s (handleWithdraw n s).1 := by
  unfold handleWithdraw; repeat' split
  · exact .refl _
  · exact .of_differs (setTracker_differs.seq freeUnit_differs)
  · exact .of_differs (((releaseStation_differs.seq freeUnit_differs).seq arbiterPass_differs).seq noteStations_differs)
  · exact leaveShredQueue_worked.after (.of_differs freeUnit_differs)
  · exact .refl _

theorem handleSetChamberLimits_worked {l : ChamberLimits} : Worked s (handleSetChamberLimits l s).1 := by
  unfold handleSetChamberLimits; repeat' split
  all_goals exact .inl rfl

theorem handleEmergencyTrip_held (h : s.ModeHeld) : (handleEmergencyTrip s).1.ModeHeld := by
  unfold handleEmergencyTrip; split
  · exact addCauses_held (fun _ _ => rfl) h
  · rename_i hmode
    split
    · exact h
    · exact joinCauses_held hmode (fun _ => rfl) h

/-- R146: what clears the trip leaves RUNNING, no cause and a chamber that is not HALTED. -/
theorem clearTrip_held : s.clearTrip.ModeHeld := by
  have cleared {t : State} : t.clearChamber.chamber.standing ≠ .halted := by
    unfold State.clearChamber; split
    · exact nofun
    · rename_i h; exact fun e => h e
  have hrun {t : State} (h : t.link.mode = .running ∧ t.protection.causes = .empty ∧ t.protection.clearHold = none
      ∧ t.chamber.standing ≠ .halted) : t.ModeHeld :=
    ⟨fun _ => h.2, fun ht => absurd (h.1.symm.trans ht) (by decide), fun ht => absurd (h.1.symm.trans ht) (by decide)⟩
  unfold State.clearTrip; extract_lets before set _ t _ u v
  have hv : v.ModeHeld := hrun ⟨clearChamber_differs.mode, by rw [clearChamber_differs.protection]; rfl,
    by rw [clearChamber_differs.protection]; rfl, cleared⟩
  exact ModeHeld.differs hv
    ((((removeTripCause_differs.seq noteStations_differs).seq raise_differs).seq arbiterPass_differs).seq
      noteStations_differs)

theorem handleGoOnline_held (h : s.ModeHeld) : (handleGoOnline s).1.ModeHeld := by
  unfold handleGoOnline; split
  · exact h
  · exact h
  · rename_i hmode
    split
    · exact h
    · rename_i hclear
      repeat' split
      · exact h
      · exact h
      · obtain ⟨hcauses, hhold, hstanding⟩ := h.2.2 hmode
        have hempty : s.protection.causes = .empty := by
          rcases hcauses with h | h
          · exact h
          · rw [h] at hclear; exact absurd rfl hclear
        have honline : (s.setLink { s.link with mode := .running }).ModeHeld :=
          ⟨fun _ => ⟨hempty, hhold, by rw [State.setLink_chamber, hstanding]; exact nofun⟩, nofun, nofun⟩
        exact ModeHeld.differs honline (arbiterPass_differs.seq noteStations_differs)

/-- R182: a line without work goes OFFLINE with its chamber STOPPED. -/
theorem handleGoOffline_held (h : s.ModeHeld) : (handleGoOffline s).1.ModeHeld := by
  unfold handleGoOffline; split
  · exact h
  · exact h
  · rename_i hmode
    split
    · exact h
    · rename_i hwork
      obtain ⟨hcauses, hhold, -⟩ := h.1 hmode
      have hstanding : s.chamber.standing = .stopped := by
        refine Classical.byContradiction fun hne => ?_
        exact hwork (by simp [State.workInFlight, hne])
      exact ⟨nofun, nofun, fun _ => ⟨.inl hcauses, hhold, hstanding⟩⟩

theorem lineRestart_held : s.lineRestart.ModeHeld := by
  unfold State.lineRestart; extract_lets _ _ _ t
  have ht : t.ModeHeld := ⟨nofun, nofun, fun _ => ⟨.inl rfl, rfl, rfl⟩⟩
  exact ModeHeld.differs ht noteStations_differs

theorem withLayout_held {α : Type} {o : Option α} {g : α → State → State × Reply} (h : s.ModeHeld)
    (hg : ∀ a, (g a s).1.ModeHeld) : (withLayout o g s).1.ModeHeld := by
  cases o with
  | none => exact h
  | some a => exact hg a

/-- Every request's handling keeps the agreement. -/
theorem handler_held {i : Instr} {g : State → State × Reply} (e : handlerOf i = some g) (h : s.ModeHeld) :
    (g s).1.ModeHeld := by
  have d := handler_differs e s
  have worked {α : Type} {o : Option α} {f : α → State → State × Reply} {k : List Block} (hw : ∀ a, Worked s (f a s).1)
      (hd : ∀ a, Differs k s (f a s).1) (hk : .mode ∉ k ∧ .protection ∉ k := by decide) :
      (withLayout o f s).1.ModeHeld :=
    withLayout_held h fun a => ModeHeld.worked h (hw a) ((hd a).mode hk.1) ((hd a).protection hk.2)
  cases i <;> simp only [handlerOf, Option.some.injEq, reduceCtorEq] at e <;> subst e
  case admitUnit => exact worked (fun _ => handleAdmit_worked) fun _ => handleAdmit_differs
  case withdrawUnit => exact worked (fun _ => handleWithdraw_worked) fun _ => handleWithdraw_differs
  case stageChamberSettings => exact worked (fun _ => handleStage_worked) fun _ => handleStage_differs
  case startChamber => exact withLayout_held h fun _ => handleStart_held h
  case stopChamber => exact worked (fun _ => handleStop_worked) fun _ => handleStop_differs
  case setChamberLimits => exact worked (fun _ => handleSetChamberLimits_worked) fun _ => handleSetChamberLimits_differs
  case setProtectionLimits =>
    refine withLayout_held h fun _ => ?_
    unfold handleSetProtection; repeat' split
    all_goals exact h
  case emergencyTrip => exact withLayout_held h fun _ => handleEmergencyTrip_held h
  case clearTrip =>
    refine withLayout_held h fun _ => ?_
    unfold handleClearTrip; repeat' split
    all_goals first
      | exact h
      | exact clearTrip_held
  case goOnline => exact withLayout_held h fun _ => handleGoOnline_held h
  case goOffline => exact withLayout_held h fun _ => handleGoOffline_held h
  case lineRestart => exact withLayout_held h fun _ => lineRestart_held
  all_goals exact ModeHeld.differs h d (by simp [touched]) (by simp [touched]) (by simp [touched])

theorem elapse_worked (n : Nat) : Worked s (s.elapse n) := by
  unfold Worked
  show (s.chamber.standing.elapse n) = _ ∨ _
  cases hs : s.chamber.standing with
  | charging c =>
    refine .inr ⟨rfl, ?_⟩
    show (s.chamber.standing.elapse n) ≠ _
    rw [hs]; simp only [ChamberStanding.elapse]
    split <;> exact nofun
  | stopped => exact .inl rfl
  | waiting => exact .inl rfl
  | halted => exact .inl rfl

end held

theorem modeHeld_plantKept : PlantKept State.ModeHeld where
  reads s t hb h := by
    have hchamber : t.chamber = s.chamber := hb .chamber (by decide)
    have hmode : t.link.mode = s.link.mode := hb .mode (by decide)
    have hprotection : t.protection = s.protection := hb .protection (by decide)
    simpa only [State.ModeHeld, hchamber, hmode, hprotection] using h
  reset := by decide
  elapse n h := ModeHeld.worked h (elapse_worked n) rfl rfl
  handle := handler_held
  stationScan _ _ h := ModeHeld.worked h stationScan_worked stationScan_differs.mode stationScan_differs.protection
  receiverScan _ _ h := ModeHeld.differs h receiverScan_differs
  chamberScan _ := chamberScan_held
  protectionScan _ := protectionScan_held
  writeScan _ h := ModeHeld.differs h writeScan_differs
  pierceEnd _ _ h := ModeHeld.differs h pierceEnd_differs
  release _ _ _ h := ModeHeld.differs h releaseWith_differs
  holdEnd _ _ h := ModeHeld.differs h holdEnd_differs
  releaseEnd _ _ h := ModeHeld.differs h releaseEnd_differs
  expire _ _ hc h := addCauses_held_of_charging hc h

/-- Settles O9: a chamber at work stays in RUNNING, and the trip and the mode requests set all three together. -/
theorem stepKeepsLineMode : Obligations.StepKeepsLineMode := fun _ _ h e => modeHeld_plantKept.kept.step h e

end Sys2Proof.Proofs.LineModes

/-! # Each record in its one place (R7, R18 to R20)

A record's row is its unit state with the station it names; a station's seat is the tag it holds with the state that tag's record
has to be in. `Places` says that the rows, the lists of tags and the seats agree, over tracker, charge and seats apart, so that it can
be said of the states between a record's move and its station's. -/

namespace Sys2Proof.Proofs.RecordPlaces
open Sys2Proof Sys2Proof.Machine Sys2Proof.Proofs.Frames Sys2Proof.Proofs.Steps Sys2Proof.Proofs.Soundness
  Sys2Proof.Proofs.LineModes

set_option Elab.async false

/-! ### Rows -/

/-- A record's unit state with the station it names. -/
abbrev Row := UnitState × Option StationNo

/-- A record's row. -/
def rowOf (u : UnitRecord) : Row := (u.state, u.station)

theorem rowOf_eq {u : UnitRecord} {x : UnitState} {st : Option StationNo} :
    rowOf u = (x, st) ↔ u.state = x ∧ u.station = st := iff_of_eq (Prod.mk.injEq ..)

/-- The row under a tag, if a record with that tag is held. -/
def row (l : List UnitRecord) (n : Nat) : Option Row := (l.find? fun u => u.tag = n).map rowOf

/-- The tags of the records in a unit state. -/
def tagsIn (x : UnitState) (l : List UnitRecord) : List Nat := (l.filter fun u => u.state = x).map (·.tag)

section rows
variable {l : List UnitRecord} {n : Nat} {u : UnitRecord}

theorem find_eq_of_mem (h : TagsIn l) (hu : u ∈ l) : l.find? (fun v => v.tag = u.tag) = some u := by
  obtain ⟨hnodup, -⟩ := h
  induction l with
  | nil => cases hu
  | cons v l ih =>
    simp only [List.map_cons, List.nodup_cons] at hnodup
    rcases List.mem_cons.mp hu with rfl | hu
    · simp
    · have hne : v.tag ≠ u.tag := fun e => hnodup.1 (e ▸ List.mem_map_of_mem hu)
      rw [List.find?_cons_of_neg (by simpa using hne)]
      exact ih hu hnodup.2

theorem row_eq_of_mem (h : TagsIn l) (hu : u ∈ l) : row l u.tag = some (rowOf u) := by
  rw [row, find_eq_of_mem h hu]; rfl

theorem exists_of_row {r : Row} (h : row l n = some r) : ∃ u ∈ l, u.tag = n ∧ rowOf u = r := by
  obtain ⟨u, hu, rfl⟩ := Option.map_eq_some_iff.mp h
  exact ⟨u, List.mem_of_find?_eq_some hu, by simpa using List.find?_some hu, rfl⟩

theorem row_eq_some_iff (h : TagsIn l) {r : Row} : row l n = some r ↔ ∃ u ∈ l, u.tag = n ∧ rowOf u = r :=
  ⟨exists_of_row, by rintro ⟨u, hu, rfl, rfl⟩; exact row_eq_of_mem h hu⟩

theorem mem_tagsIn {x : UnitState} (h : TagsIn l) : n ∈ tagsIn x l ↔ ∃ st, row l n = some (x, st) := by
  simp only [tagsIn, List.mem_map, List.mem_filter, decide_eq_true_eq, row_eq_some_iff h]
  constructor
  · rintro ⟨u, ⟨hu, rfl⟩, rfl⟩
    exact ⟨u.station, u, hu, rfl, rfl⟩
  · rintro ⟨st, u, hu, rfl, hr⟩
    exact ⟨u, ⟨hu, (rowOf_eq.mp hr).1⟩, rfl⟩

theorem tagsIn_nodup {x : UnitState} (h : TagsIn l) : (tagsIn x l).Nodup :=
  h.1.sublist (List.filter_sublist.map _)

/-- Records changed under their tags keep the order and the rows that are not changed. -/
theorem row_map {f : UnitRecord → UnitRecord} (hf : ∀ u, (f u).tag = u.tag) :
    row (l.map f) n = (l.find? fun u => u.tag = n).map fun u => rowOf (f u) := by
  rw [row, List.find?_map]
  simp only [Function.comp_def, hf, Option.map_map]

theorem row_modify {f : UnitRecord → UnitRecord} (hf : ∀ u, u.tag = n → (f u).tag = u.tag) (m : Nat) :
    row (l.map fun u => if u.tag = n then f u else u) m
      = if m = n then (l.find? fun u => u.tag = n).map (rowOf ∘ f) else row l m := by
  rw [row_map (by intro u; split <;> simp_all)]
  split
  · rename_i h; subst h
    cases e : l.find? fun u => u.tag = m with
    | none => rfl
    | some u =>
      have : u.tag = m := by simpa using List.find?_some e
      simp [this]
  · rename_i h
    rw [row]
    cases e : l.find? fun u => u.tag = m with
    | none => rfl
    | some u =>
      have hu : u.tag = m := by simpa using List.find?_some e
      simp [hu, h]

theorem row_filter_tag {p : Nat → Bool} (m : Nat) :
    row (l.filter fun u => p u.tag) m = if p m then row l m else none := by
  rw [row, List.find?_filter, row]
  split
  · rename_i h
    congr 2
    funext u
    by_cases hu : u.tag = m <;> simp [hu, h]
  · rename_i h
    rw [List.find?_eq_none.mpr]
    · rfl
    · intro u _
      by_cases hu : u.tag = m <;> simp [hu, h]

theorem row_append (m : Nat) : row (l ++ [u]) m = (row l m).or (if u.tag = m then some (rowOf u) else none) := by
  rw [row, List.find?_append, row]
  cases l.find? fun v => v.tag = m with
  | some v => rfl
  | none =>
    by_cases hu : u.tag = m <;> simp [hu]

theorem tagsIn_map {x : UnitState} {f : UnitRecord → UnitRecord} (hf : ∀ u, (f u).tag = u.tag)
    (hx : ∀ u ∈ l, (f u).state = x ↔ u.state = x) : tagsIn x (l.map f) = tagsIn x l := by
  unfold tagsIn
  rw [List.filter_map, List.map_map]
  have hp : l.filter ((fun u => decide (u.state = x)) ∘ f) = l.filter fun u => decide (u.state = x) :=
    List.filter_congr fun u hu => by simp [hx u hu]
  rw [hp]
  exact List.map_congr_left fun u _ => hf u

/-- A record that leaves a state leaves the list of its tags, the others in their order. -/
theorem tagsIn_modify_erase (h : TagsIn l) {x : UnitState} {f : UnitRecord → UnitRecord}
    (hx : ∀ u, (f u).state ≠ x) :
    tagsIn x (l.map fun u => if u.tag = n then f u else u) = (tagsIn x l).erase n := by
  rw [(tagsIn_nodup h).erase_eq_filter]
  unfold tagsIn
  rw [List.filter_map, List.map_map, List.filter_map, List.filter_filter]
  have hp : (l.filter ((fun u => decide (u.state = x)) ∘ fun u => if u.tag = n then f u else u))
      = l.filter fun u => ((· != n) ∘ (·.tag)) u && decide (u.state = x) :=
    List.filter_congr fun u _ => by
      by_cases hu : u.tag = n <;> simp [hu, hx]
  rw [hp]
  refine List.map_congr_left fun u hu => ?_
  have hne : u.tag ≠ n := by simpa using (List.mem_filter.mp hu).2 |> fun h => (Bool.and_eq_true_iff.mp h).1
  simp [hne]

theorem tagsIn_free (h : TagsIn l) {x : UnitState} :
    tagsIn x (l.filter fun u => u.tag ≠ n) = (tagsIn x l).erase n := by
  rw [(tagsIn_nodup h).erase_eq_filter]
  unfold tagsIn
  rw [List.filter_map, List.filter_filter, List.filter_filter]
  congr 1
  exact List.filter_congr fun u _ => by
    by_cases hu : u.tag = n <;> simp [hu]

theorem tagsIn_append {x : UnitState} : tagsIn x (l ++ [u]) = tagsIn x l ++ if u.state = x then [u.tag] else [] := by
  unfold tagsIn
  rw [List.filter_append, List.map_append]
  by_cases h : u.state = x <;> simp [h]

end rows

/-! ### Places -/

/-- R7: the unit states in which a record names a station. -/
abbrev seatedStates : List UnitState := [.assigned, .degassing, .degassed]

/-- A list holds exactly the tags of the records in a state in which no station is named, each once. -/
def Lists (l : List UnitRecord) (x : UnitState) (tags : List Nat) : Prop :=
  tags.Nodup ∧ ∀ n, n ∈ tags ↔ row l n = some (x, none)

/-- What each station holds: a tag, and the state that its record has. -/
abbrev Seats := StationNo → Option (Nat × UnitState)

/-- Rows, lists and seats agree. -/
structure Places (t : Tracker) (charge : List Nat) (seat : Seats) : Prop where
  tags : TagsIn t.units
  degas : t.degasQueue = tagsIn .admitted t.units
  shred : Lists t.units .shredQueued t.shredQueue
  closed : Lists t.units .closed t.closedList
  charge : Lists t.units .inCharge charge
  seats : ∀ i n x, seat i = some (n, x) ↔ row t.units n = some (x, some i)
  named : ∀ n x st, row t.units n = some (x, st) → (st = none ↔ x ∉ seatedStates)

section places
variable {t t' : Tracker} {charge charge' : List Nat} {seat : Seats} {n : Nat}

theorem Places.row_iff_of_unseated (p : Places t charge seat) {x : UnitState} (hx : x ∉ seatedStates) :
    (∃ st, row t.units n = some (x, st)) ↔ row t.units n = some (x, none) :=
  ⟨fun ⟨st, h⟩ => by rwa [(p.named n x st h).mpr hx] at h, fun h => ⟨none, h⟩⟩

theorem Places.mem_degas (p : Places t charge seat) : n ∈ t.degasQueue ↔ row t.units n = some (.admitted, none) := by
  rw [p.degas, mem_tagsIn p.tags, p.row_iff_of_unseated (by decide)]

/-- Agreement is about rows, lists and seats alone. -/
theorem Places.congr (p : Places t charge seat) (htags : TagsIn t'.units)
    (hdegas : t'.degasQueue = tagsIn .admitted t'.units) (hrows : ∀ n, row t'.units n = row t.units n)
    (hshred : t'.shredQueue = t.shredQueue) (hclosed : t'.closedList = t.closedList) : Places t' charge seat where
  tags := htags
  degas := hdegas
  shred := by simpa only [Lists, hrows, hshred] using p.shred
  closed := by simpa only [Lists, hrows, hclosed] using p.closed
  charge := by simpa only [Lists, hrows] using p.charge
  seats := by simpa only [hrows] using p.seats
  named := by simpa only [hrows] using p.named

/-- The row that the tag `n` has after a change: the rows of the other tags stay. -/
structure Moved (l l' : List UnitRecord) (n : Nat) (r : Option Row) : Prop where
  self : row l' n = r
  other : ∀ m, m ≠ n → row l' m = row l m

theorem Lists.stays {l l' : List UnitRecord} {x : UnitState} {tags : List Nat} {r : Option Row} (h : Lists l x tags)
    (hm : Moved l l' n r) (hold : row l n ≠ some (x, none)) (hnew : r ≠ some (x, none)) : Lists l' x tags :=
  ⟨h.1, fun m => by
    by_cases e : m = n
    · subst e; rw [hm.self, h.2]; exact ⟨fun h => absurd h hold, fun h => absurd h hnew⟩
    · rw [hm.other m e]; exact h.2 m⟩

theorem Lists.leaves {l l' : List UnitRecord} {x : UnitState} {tags : List Nat} {r : Option Row} (h : Lists l x tags)
    (hm : Moved l l' n r) (hnew : r ≠ some (x, none)) : Lists l' x (tags.erase n) :=
  ⟨h.1.erase n, fun m => by
    rw [h.1.mem_erase_iff]
    by_cases e : m = n
    · subst e; rw [hm.self]; simp [hnew]
    · rw [hm.other m e, h.2 m]; simp [e]⟩

theorem Lists.joins {l l' : List UnitRecord} {x : UnitState} {tags : List Nat} (h : Lists l x tags)
    (hm : Moved l l' n (some (x, none))) (hold : row l n ≠ some (x, none)) : Lists l' x (tags ++ [n]) :=
  ⟨nodup_snoc h.1 fun hn => hold ((h.2 n).mp hn), fun m => by
    rw [List.mem_append, List.mem_singleton, h.2 m]
    by_cases e : m = n
    · subst e; simp [hm.self]
    · simp [hm.other m e, e]⟩

/-- The seat of the station where a record's row says it is. -/
def reseat (seat : Seats) (i : StationNo) (o : Option (Nat × UnitState)) : Seats := fun j => if j = i then o else seat j

/-- The seats follow a record that moves at station `i`: from or to it, or within it. -/
theorem seats_reseat {l l' : List UnitRecord} {i : StationNo} {r : Option Row}
    (h : ∀ i n x, seat i = some (n, x) ↔ row l n = some (x, some i)) (hm : Moved l l' n r)
    (hold : ∀ x j, row l n = some (x, some j) → j = i) (hnew : ∀ x j, r = some (x, some j) → j = i)
    (hfree : ∀ m x, seat i = some (m, x) → m = n) (j : StationNo) (m : Nat) (x : UnitState) :
    reseat seat i (r.bind fun q => q.2.map fun _ => (n, q.1)) j = some (m, x) ↔ row l' m = some (x, some j) := by
  unfold reseat
  by_cases e : m = n
  · subst e
    rw [hm.self]
    split
    · rename_i hj; subst hj
      rcases r with _ | ⟨y, _ | k⟩
      · simp
      · simp
      · have := hnew y k rfl
        subst this; simp
    · rename_i hj
      rw [h]
      exact ⟨fun hr => absurd (hold x j hr) hj, fun hr => absurd (hnew x j hr) hj⟩
  · rw [hm.other m e]
    split
    · rename_i hj; subst hj
      rw [← h]
      refine ⟨fun hr => ?_, fun hr => absurd (hfree m x hr) e⟩
      rcases r with _ | ⟨y, _ | k⟩ <;> simp at hr
      exact absurd hr.1.symm e
    · exact h j m x

/-- A record that is at no station before or after leaves the seats. -/
theorem seats_stay {l l' : List UnitRecord} {r : Option Row}
    (h : ∀ i n x, seat i = some (n, x) ↔ row l n = some (x, some i)) (hm : Moved l l' n r)
    (hold : ∀ x j, row l n ≠ some (x, some j)) (hnew : ∀ x j, r ≠ some (x, some j)) (j : StationNo) (m : Nat)
    (x : UnitState) : seat j = some (m, x) ↔ row l' m = some (x, some j) := by
  rw [h]
  by_cases e : m = n
  · subst e; rw [hm.self]; exact ⟨fun h => absurd h (hold x j), fun h => absurd h (hnew x j)⟩
  · rw [hm.other m e]

theorem named_moved {l l' : List UnitRecord} {r : Option Row}
    (h : ∀ n x st, row l n = some (x, st) → (st = none ↔ x ∉ seatedStates)) (hm : Moved l l' n r)
    (hr : ∀ x st, r = some (x, st) → (st = none ↔ x ∉ seatedStates)) (m : Nat) (x : UnitState) (st : Option StationNo) :
    row l' m = some (x, st) → (st = none ↔ x ∉ seatedStates) := by
  by_cases e : m = n
  · subst e; rw [hm.self]; exact hr x st
  · rw [hm.other m e]; exact h m x st

theorem moved_modify {l : List UnitRecord} {f : UnitRecord → UnitRecord} (hf : ∀ u, u.tag = n → (f u).tag = u.tag) :
    Moved l (l.map fun u => if u.tag = n then f u else u) n ((l.find? fun u => u.tag = n).map (rowOf ∘ f)) :=
  ⟨by rw [row_modify hf]; simp, fun m hm => by rw [row_modify hf]; simp [hm]⟩

theorem moved_free {l : List UnitRecord} : Moved l (l.filter fun u => u.tag ≠ n) n none := by
  have h := fun m => row_filter_tag (l := l) (p := fun k => decide (k ≠ n)) m
  exact ⟨by rw [h]; simp, fun m hm => by rw [h]; simp [hm]⟩

end places

/-! ### The state's places -/

/-- Rows, lists and given seats agree, and a void charge holds no unit. -/
def Placed (seat : Seats) (s : State) : Prop :=
  Places s.tracker s.chamber.standing.units seat
    ∧ (s.chamber.standing.isVoid = true → s.chamber.standing.units = [])

/-- What a station holds, with the state that goes with its own. -/
def seatOf (st : Station) : Option (Nat × UnitState) := st.unit.bind fun n => st.state.holds.map fun x => (n, x)

/-- A station holds a tag exactly in the states that hold a record. -/
def Seated (st : Station) : Prop := st.unit = none ↔ st.state.holds = none

/-- What the stations hold. -/
def seatsOf (s : State) : Seats := fun i => seatOf (s.station i)

/-- R7: the part's rows, lists and stations agree. -/
def Settled (s : State) : Prop := Placed (seatsOf s) s ∧ ∀ i, Seated (s.station i)

section state
variable {s t u : State} {seat : Seats} {n : Nat} {i : StationNo}

theorem seatOf_eq {st : Station} {x : UnitState} (h : Seated st) (hx : st.state.holds = some x) :
    ∃ n, st.unit = some n ∧ seatOf st = some (n, x) := by
  unfold Seated at h
  rw [hx] at h
  cases hu : st.unit with
  | none => exact absurd (h.mp hu) nofun
  | some n => exact ⟨n, rfl, by simp [seatOf, hu, hx]⟩

theorem unit_none {st : Station} (h : Seated st) (hx : st.state.holds = none) : st.unit = none := h.mpr hx

theorem holds_seated {x : StationState} {y : UnitState} (h : x.holds = some y) : y ∈ seatedStates := by
  cases x <;> simp [StationState.holds] at h <;> subst h <;> decide

/-- The invariant of `Machine` and the agreement of rows, lists and seats are one. -/
theorem settled_iff (s : State) : Settled s ↔ s.TagsHeld ∧ s.PlacesHeld := by
  have unseated {x : UnitState} (hx : x ∉ seatedStates)
      (hn : ∀ u ∈ s.tracker.units, u.station = none ↔ u.state ∉ seatedStates) {tags : List Nat} (ht : s.TagsHeld) :
      Lists s.tracker.units x tags ↔ tags.Perm (s.tracker.tagsIn x) := by
    have hmem (n : Nat) : n ∈ tagsIn x s.tracker.units ↔ row s.tracker.units n = some (x, none) := by
      rw [mem_tagsIn ht]
      refine ⟨fun ⟨st, h⟩ => ?_, fun h => ⟨none, h⟩⟩
      obtain ⟨u, hu, rfl, hr⟩ := exists_of_row h
      obtain ⟨rfl, rfl⟩ := rowOf_eq.mp hr
      rwa [(hn u hu).mpr hx] at h
    constructor
    · rintro ⟨hnodup, h⟩
      exact (List.perm_ext_iff_of_nodup hnodup (tagsIn_nodup ht)).mpr fun n => (h n).trans (hmem n).symm
    · intro h
      exact ⟨h.nodup_iff.mpr (tagsIn_nodup ht), fun n => h.mem_iff.trans (hmem n)⟩
  constructor
  · rintro ⟨⟨p, hvoid⟩, hseated⟩
    have hn : ∀ u ∈ s.tracker.units, u.station = none ↔ u.state ∉ seatedStates := fun u hu =>
      p.named u.tag u.state u.station (row_eq_of_mem p.tags hu)
    refine ⟨p.tags, p.degas, (unseated (by decide) hn p.tags).mp p.shred, (unseated (by decide) hn p.tags).mp p.closed,
      (unseated (by decide) hn p.tags).mp p.charge, hvoid, fun i => (hseated i).mpr, fun i hi => ?_, hn, fun u hu i hst => ?_⟩
    · obtain ⟨x, hx⟩ := Option.ne_none_iff_exists'.mp hi
      obtain ⟨n, hunit, hseat⟩ := seatOf_eq (hseated i) hx
      obtain ⟨u, hu, rfl, hr⟩ := exists_of_row ((p.seats i n x).mp hseat)
      obtain ⟨rfl, hstation⟩ := rowOf_eq.mp hr
      exact ⟨u, hu, hunit, hx.symm, hstation⟩
    · have hr : row s.tracker.units u.tag = some (u.state, some i) := by
        rw [row_eq_of_mem p.tags hu, rowOf, hst]
      have hseat := (p.seats i _ _).mpr hr
      simp only [seatsOf, seatOf, Option.bind_eq_some_iff, Option.map_eq_some_iff] at hseat
      obtain ⟨m, hm, y, -, he⟩ := hseat
      rw [hm]; exact congrArg some (congrArg Prod.fst he)
  · rintro ⟨ht, hdegas, hshred, hclosed, hcharge, hvoid, hidle, hheld, hn, hnames⟩
    have hseated (i : StationNo) : Seated (s.station i) := by
      refine ⟨fun h => ?_, hidle i⟩
      refine Classical.byContradiction fun hne => ?_
      obtain ⟨u, -, hunit, -⟩ := hheld i hne
      rw [h] at hunit; cases hunit
    refine ⟨⟨⟨ht, hdegas, (unseated (by decide) hn ht).mpr hshred, (unseated (by decide) hn ht).mpr hclosed,
      (unseated (by decide) hn ht).mpr hcharge, fun i n x => ⟨fun h => ?_, fun h => ?_⟩, fun n x st h => ?_⟩, hvoid⟩, hseated⟩
    · simp only [seatsOf, seatOf, Option.bind_eq_some_iff, Option.map_eq_some_iff] at h
      obtain ⟨m, hm, y, hy, he⟩ := h
      obtain ⟨u, hu, hunit, hstate, hstation⟩ := hheld i (by rw [hy]; exact nofun)
      rw [hm, Option.some.injEq] at hunit
      have hm' : m = n := congrArg Prod.fst he
      have hy' : y = x := congrArg Prod.snd he
      rw [hy, Option.some.injEq] at hstate
      rw [← hm', ← hy', hunit, row_eq_of_mem ht hu, rowOf, hstate, hstation]
    · obtain ⟨u, hu, rfl, hr⟩ := exists_of_row h
      obtain ⟨rfl, hstation⟩ := rowOf_eq.mp hr
      have hunit := hnames u hu i hstation
      have hholds : (s.station i).state.holds ≠ none := fun h => by
        rw [hidle i h] at hunit; cases hunit
      obtain ⟨v, hv, hvunit, hvstate, -⟩ := hheld i hholds
      rw [hunit, Option.some.injEq] at hvunit
      have hvu : v = u := by
        have h1 := find_eq_of_mem ht hu
        rw [hvunit, find_eq_of_mem ht hv, Option.some.injEq] at h1
        exact h1
      subst hvu
      simp only [seatsOf, seatOf, hunit, ← hvstate, Option.bind_some, Option.map_some]
    · obtain ⟨u, hu, rfl, hr⟩ := exists_of_row h
      obtain ⟨rfl, rfl⟩ := rowOf_eq.mp hr
      exact hn u hu

end state

end Sys2Proof.Proofs.RecordPlaces

/-! # The moves of records and stations (1.2, R7)

Each way in which a record changes its place, on `Places`; then each rule of the part on `Placed` and `Settled`. -/

namespace Sys2Proof.Proofs.RecordPlaces
open Sys2Proof Sys2Proof.Machine Sys2Proof.Proofs.Frames Sys2Proof.Proofs.Steps Sys2Proof.Proofs.Soundness
  Sys2Proof.Proofs.LineModes

set_option Elab.async false

/-! ### One record moves -/

section moves
variable {t : Tracker} {charge : List Nat} {seat : Seats} {n : Nat} {i : StationNo}

/-- The records of a tracker, one of them changed. -/
abbrev modified (t : Tracker) (n : Nat) (f : UnitRecord → UnitRecord) : List UnitRecord :=
  t.units.map fun u => if u.tag = n then f u else u

/-- A record changed under its tag gets the row it is given. -/
theorem moved_to {r r' : Row} {f : UnitRecord → UnitRecord} (hrow : row t.units n = some r)
    (hf : ∀ u, u.tag = n → rowOf u = r → (f u).tag = u.tag ∧ rowOf (f u) = r') (htag : ∀ u, u.tag = n → (f u).tag = u.tag) :
    Moved t.units (modified t n f) n (some r') := by
  have h := moved_modify (l := t.units) htag
  obtain ⟨u, hu, hr⟩ := Option.map_eq_some_iff.mp hrow
  have hun : u.tag = n := by simpa using List.find?_some hu
  rw [hu] at h
  simpa [(hf u hun hr).2] using h

theorem tagsIn_modified {f : UnitRecord → UnitRecord} (h : TagsIn t.units) (htag : ∀ u, u.tag = n → (f u).tag = u.tag) :
    TagsIn (modified t n f) :=
  (UnitsFit.map fun u => by split <;> simp_all).tags h

/-- The tags of a state that the changed record is not in, before and after. -/
theorem tagsIn_modified_of_not {x y z : UnitState} {st st' : Option StationNo} {f : UnitRecord → UnitRecord}
    (h : TagsIn t.units) (hrow : row t.units n = some (y, st))
    (hf : ∀ u, u.tag = n → rowOf u = (y, st) → (f u).tag = u.tag ∧ rowOf (f u) = (z, st'))
    (htag : ∀ u, u.tag = n → (f u).tag = u.tag) (hy : y ≠ x) (hz : z ≠ x) :
    tagsIn x (modified t n f) = tagsIn x t.units := by
  refine tagsIn_map (by intro u; split <;> simp_all) fun u hu => ?_
  split
  · rename_i hun
    have hr : rowOf u = (y, st) := by
      have := row_eq_of_mem h hu
      rw [hun, hrow] at this
      exact (Option.some.inj this).symm
    obtain ⟨rfl, -⟩ := rowOf_eq.mp hr
    obtain ⟨rfl, -⟩ := rowOf_eq.mp (hf u hun hr).2
    simp [hy, hz]
  · rfl

/-- R41, R48: a record comes from its station to the tail of the Shred Queue. -/
theorem Places.unseat (p : Places t charge seat) {x : UnitState} {f : UnitRecord → UnitRecord}
    (hx : x = .degassing ∨ x = .degassed) (hseat : seat i = some (n, x)) (hf : ∀ u, (f u).tag = u.tag)
    (hrow : ∀ u, rowOf (f u) = (.shredQueued, none)) :
    Places { t with units := modified t n f, shredQueue := t.shredQueue ++ [n] } charge (reseat seat i none) := by
  have hold := (p.seats i n x).mp hseat
  have hm : Moved t.units (modified t n f) n (some (.shredQueued, none)) :=
    moved_to hold (fun u _ _ => ⟨hf u, hrow u⟩) fun u _ => hf u
  have hadm : x ≠ .admitted := by rcases hx with rfl | rfl <;> decide
  exact
    { tags := tagsIn_modified p.tags fun u _ => hf u
      degas := p.degas.trans (tagsIn_modified_of_not p.tags hold (fun u _ _ => ⟨hf u, hrow u⟩) (fun u _ => hf u) hadm
        (by decide)).symm
      shred := p.shred.joins hm (by rw [hold]; simp)
      closed := p.closed.stays hm (by rw [hold]; simp) (by simp)
      charge := p.charge.stays hm (by rw [hold]; simp) (by simp)
      seats := seats_reseat p.seats hm (fun y j h => by rw [hold] at h; simp_all) (by simp)
        (fun m y h => by rw [hseat] at h; simp_all)
      named := named_moved p.named hm (by simp) }

/-- R22: a waiting record is given to a station that holds none. -/
theorem Places.assign (p : Places t charge seat) {f : UnitRecord → UnitRecord} (hn : n ∈ t.degasQueue)
    (hseat : seat i = none) (hf : ∀ u, (f u).tag = u.tag) (hrow : ∀ u, rowOf (f u) = (.assigned, some i)) :
    Places { t with units := modified t n f, degasQueue := t.degasQueue.erase n } charge
      (reseat seat i (some (n, .assigned))) := by
  have hold := p.mem_degas.mp hn
  have hm : Moved t.units (modified t n f) n (some (.assigned, some i)) :=
    moved_to hold (fun u _ _ => ⟨hf u, hrow u⟩) fun u _ => hf u
  exact
    { tags := tagsIn_modified p.tags fun u _ => hf u
      degas := by
        rw [tagsIn_modify_erase p.tags fun u => by rw [(rowOf_eq.mp (hrow u)).1]; decide, ← p.degas]
      shred := p.shred.stays hm (by rw [hold]; simp) (by simp)
      closed := p.closed.stays hm (by rw [hold]; simp) (by simp)
      charge := p.charge.stays hm (by rw [hold]; simp) (by simp)
      seats := seats_reseat p.seats hm (fun y j h => by rw [hold] at h; simp_all) (by simp)
        (fun m y h => by rw [hseat] at h; cases h)
      named := named_moved p.named hm (by simp) }

/-- R18, R40: a record at a station goes on to its next state there. -/
theorem Places.advance (p : Places t charge seat) {x y : UnitState} {f : UnitRecord → UnitRecord}
    (hxy : x = .assigned ∧ y = .degassing ∨ x = .degassing ∧ y = .degassed) (hseat : seat i = some (n, x))
    (hf : ∀ u, (f u).tag = u.tag) (hrow : ∀ u, rowOf u = (x, some i) → rowOf (f u) = (y, some i)) :
    Places { t with units := modified t n f } charge (reseat seat i (some (n, y))) := by
  have hold := (p.seats i n x).mp hseat
  have hstep : ∀ u, u.tag = n → rowOf u = (x, some i) → (f u).tag = u.tag ∧ rowOf (f u) = (y, some i) :=
    fun u _ hr => ⟨hf u, hrow u hr⟩
  have hm : Moved t.units (modified t n f) n (some (y, some i)) := moved_to hold hstep fun u _ => hf u
  have hadm : x ≠ .admitted ∧ y ≠ .admitted := by rcases hxy with ⟨rfl, rfl⟩ | ⟨rfl, rfl⟩ <;> decide
  exact
    { tags := tagsIn_modified p.tags fun u _ => hf u
      degas := p.degas.trans (tagsIn_modified_of_not p.tags hold hstep (fun u _ => hf u) hadm.1 hadm.2).symm
      shred := p.shred.stays hm (by rw [hold]; simp) (by simp)
      closed := p.closed.stays hm (by rw [hold]; simp) (by simp)
      charge := p.charge.stays hm (by rw [hold]; simp) (by simp)
      seats := seats_reseat p.seats hm (fun y j h => by rw [hold] at h; simp_all) (by simp)
        (fun m y h => by rw [hseat] at h; simp_all)
      named := named_moved p.named hm fun z st h => by
        rcases hxy with ⟨-, rfl⟩ | ⟨-, rfl⟩ <;> simp at h <;> simp [← h.1, ← h.2] }

/-- R127: a record of the charge is closed. -/
theorem Places.close (p : Places t charge seat) {f : UnitRecord → UnitRecord} (hn : row t.units n = some (.inCharge, none))
    (hf : ∀ u, u.tag = n → (f u).tag = u.tag) (hrow : ∀ u, rowOf (f u) = (.closed, none)) :
    Places { t with units := modified t n f, closedList := t.closedList ++ [n] } (charge.erase n) seat := by
  have hm : Moved t.units (modified t n f) n (some (.closed, none)) :=
    moved_to hn (fun u hu _ => ⟨hf u hu, hrow u⟩) hf
  exact
    { tags := tagsIn_modified p.tags hf
      degas := p.degas.trans (tagsIn_modified_of_not p.tags hn (fun u hu _ => ⟨hf u hu, hrow u⟩) hf (by decide)
        (by decide)).symm
      shred := p.shred.stays hm (by rw [hn]; simp) (by simp)
      closed := p.closed.joins hm (by rw [hn]; simp)
      charge := p.charge.leaves hm (by simp)
      seats := seats_stay p.seats hm (by rw [hn]; simp) (by simp)
      named := named_moved p.named hm (by simp) }

theorem Places.freed_tags (p : Places t charge seat) : TagsIn (t.units.filter fun u => u.tag ≠ n) := UnitsFit.filter.tags p.tags

/-- R24: a waiting record is freed. -/
theorem Places.withdraw (p : Places t charge seat) (hn : row t.units n = some (.admitted, none)) :
    Places { t with units := t.units.filter fun u => u.tag ≠ n, degasQueue := t.degasQueue.erase n } charge seat :=
  { tags := p.freed_tags
    degas := by rw [tagsIn_free p.tags, ← p.degas]
    shred := p.shred.stays moved_free (by rw [hn]; simp) (by simp)
    closed := p.closed.stays moved_free (by rw [hn]; simp) (by simp)
    charge := p.charge.stays moved_free (by rw [hn]; simp) (by simp)
    seats := seats_stay p.seats moved_free (by rw [hn]; simp) (by simp)
    named := named_moved p.named moved_free (by simp) }

theorem erase_tagsIn_of_not (p : Places t charge seat) {x : UnitState} {st : Option StationNo}
    (hn : row t.units n = some (x, st)) (hx : x ≠ .admitted) :
    t.degasQueue = tagsIn .admitted (t.units.filter fun u => u.tag ≠ n) := by
  rw [tagsIn_free p.tags, ← p.degas, List.erase_of_not_mem]
  rw [p.mem_degas, hn]
  simpa using fun h => absurd h hx

/-- R24: a record of the Shred Queue is freed. -/
theorem Places.withdrawQueued (p : Places t charge seat) (hn : row t.units n = some (.shredQueued, none)) :
    Places { t with units := t.units.filter fun u => u.tag ≠ n, shredQueue := t.shredQueue.erase n } charge seat :=
  { tags := p.freed_tags
    degas := erase_tagsIn_of_not p hn (by decide)
    shred := p.shred.leaves moved_free (by simp)
    closed := p.closed.stays moved_free (by rw [hn]; simp) (by simp)
    charge := p.charge.stays moved_free (by rw [hn]; simp) (by simp)
    seats := seats_stay p.seats moved_free (by rw [hn]; simp) (by simp)
    named := named_moved p.named moved_free (by simp) }

/-- R24: an assigned record is freed, and its station with it. -/
theorem Places.withdrawAssigned (p : Places t charge seat) (hn : row t.units n = some (.assigned, some i)) :
    Places { t with units := t.units.filter fun u => u.tag ≠ n } charge (reseat seat i none) :=
  { tags := p.freed_tags
    degas := erase_tagsIn_of_not p hn (by decide)
    shred := p.shred.stays moved_free (by rw [hn]; simp) (by simp)
    closed := p.closed.stays moved_free (by rw [hn]; simp) (by simp)
    charge := p.charge.stays moved_free (by rw [hn]; simp) (by simp)
    seats := seats_reseat p.seats moved_free (fun y j h => by rw [hn] at h; simp_all) (by simp)
      (fun m y h => by
        rw [(p.seats i n .assigned).mpr hn] at h; simp_all)
    named := named_moved p.named moved_free (by simp) }

/-- R17: a record created under a new tag has the row it is created with. -/
theorem moved_append {u : UnitRecord} (hnew : row t.units u.tag = none) :
    Moved t.units (t.units ++ [u]) u.tag (some (rowOf u)) :=
  ⟨by rw [row_append, hnew]; simp, fun m hm => by rw [row_append]; simp [Ne.symm hm]⟩

theorem tagsIn_created {u : UnitRecord} (p : Places t charge seat) (hnew : row t.units u.tag = none) (hzero : u.tag ≠ 0) :
    TagsIn (t.units ++ [u]) := by
  refine ⟨?_, fun v hv => ?_⟩
  · rw [List.map_append]
    refine nodup_snoc p.tags.1 fun hu => ?_
    obtain ⟨v, hv, hvu⟩ := List.mem_map.mp hu
    have := row_eq_of_mem p.tags hv
    rw [hvu, hnew] at this; cases this
  · rcases List.mem_append.mp hv with hv | hv
    · exact p.tags.2 v hv
    · rw [List.mem_singleton.mp hv]; exact hzero

/-- R17: a record created ADMITTED joins the Degas Queue. -/
theorem Places.create (p : Places t charge seat) {u : UnitRecord} {counter : Nat} (hnew : row t.units u.tag = none)
    (hzero : u.tag ≠ 0) (hu : rowOf u = (.admitted, none)) :
    Places { t with units := t.units ++ [u], degasQueue := t.degasQueue ++ [u.tag], admissionCounter := counter } charge
      seat :=
  have hm := moved_append (t := t) hnew
  { tags := tagsIn_created p hnew hzero
    degas := by rw [tagsIn_append, (rowOf_eq.mp hu).1, ← p.degas]; rfl
    shred := p.shred.stays hm (by rw [hnew]; simp) (by simp [hu])
    closed := p.closed.stays hm (by rw [hnew]; simp) (by simp [hu])
    charge := p.charge.stays hm (by rw [hnew]; simp) (by simp [hu])
    seats := seats_stay p.seats hm (by rw [hnew]; simp) (by simp [hu])
    named := named_moved p.named hm (by simp [hu]) }

/-- R17: a record created SHRED_QUEUED joins the Shred Queue. -/
theorem Places.createQueued (p : Places t charge seat) {u : UnitRecord} {counter : Nat} (hnew : row t.units u.tag = none)
    (hzero : u.tag ≠ 0) (hu : rowOf u = (.shredQueued, none)) :
    Places { t with units := t.units ++ [u], admissionCounter := counter, shredQueue := t.shredQueue ++ [u.tag] } charge
      seat :=
  have hm := moved_append (t := t) hnew
  { tags := tagsIn_created p hnew hzero
    degas := by rw [tagsIn_append, (rowOf_eq.mp hu).1, ← p.degas]; simp
    shred := p.shred.joins (by rw [← hu]; exact hm) (by rw [hnew]; simp)
    closed := p.closed.stays hm (by rw [hnew]; simp) (by simp [hu])
    charge := p.charge.stays hm (by rw [hnew]; simp) (by simp [hu])
    seats := seats_stay p.seats hm (by rw [hnew]; simp) (by simp [hu])
    named := named_moved p.named hm (by simp [hu]) }

/-! ### Several records move -/

/-- R84: the head of the Shred Queue is loaded into a charge that holds none yet. -/
theorem Places.load (p : Places t [] seat) {tags : List Nat} {number : Nat} (hprefix : tags <+: t.shredQueue) :
    Places
      { t with
        shredQueue := t.shredQueue.drop tags.length
        units := t.units.map fun u => if u.tag ∈ tags then { u with state := .inCharge, charge := some number } else u }
      tags seat := by
  obtain ⟨rest, hrest⟩ := hprefix
  have hnodup := p.shred.1
  rw [← hrest, List.nodup_append] at hnodup
  obtain ⟨htags, hrestNodup, hdisjoint⟩ := hnodup
  have hmem (n : Nat) : n ∈ tags ∨ n ∈ rest ↔ row t.units n = some (.shredQueued, none) := by
    rw [← p.shred.2, ← hrest, List.mem_append]
  have hrow (n : Nat) : row (t.units.map fun u =>
      if u.tag ∈ tags then { u with state := .inCharge, charge := some number } else u) n
        = if n ∈ tags then some (.inCharge, none) else row t.units n := by
    rw [row_map (by intro u; split <;> rfl)]
    cases e : t.units.find? fun u => u.tag = n with
    | none =>
      have hnone : row t.units n = none := by rw [row, e]; rfl
      have : n ∉ tags := fun h => by
        have := (hmem n).mp (.inl h)
        rw [hnone] at this; cases this
      simp [this, hnone]
    | some u =>
      have hu : u.tag = n := by simpa using List.find?_some e
      have hsome : row t.units n = some (rowOf u) := by rw [row, e]; rfl
      by_cases h : n ∈ tags
      · have := (hmem n).mp (.inl h)
        rw [hsome, Option.some.injEq, rowOf_eq] at this
        simp [hu, h, rowOf, this.2]
      · simp [hu, h, hsome]
  have hother {x : UnitState} {st : Option StationNo} (h : (x, st) ≠ (.shredQueued, none)) (h' : (x, st) ≠ (.inCharge, none))
      (n : Nat) : row t.units n = some (x, st) ↔ (if n ∈ tags then some (.inCharge, none) else row t.units n)
        = some (x, st) := by
    split
    · rename_i hn
      rw [(hmem n).mp (.inl hn)]
      exact ⟨fun e => absurd (Option.some.inj e).symm h, fun e => absurd (Option.some.inj e).symm h'⟩
    · rfl
  exact
    { tags := (UnitsFit.map fun u => by split <;> rfl).tags p.tags
      degas := p.degas.trans (tagsIn_map (by intro u; split <;> rfl) fun u hu => by
        split
        · rename_i hn
          have := (hmem u.tag).mp (.inl hn)
          rw [row_eq_of_mem p.tags hu, Option.some.injEq, rowOf_eq] at this
          simp [this.1]
        · rfl).symm
      shred := by
        rw [show t.shredQueue.drop tags.length = rest by rw [← hrest]; simp]
        refine ⟨hrestNodup, fun n => ?_⟩
        rw [hrow]
        split
        · rename_i hn
          exact ⟨fun h => absurd rfl (hdisjoint n hn n h), fun h => by simp at h⟩
        · rename_i hn
          rw [← hmem]; simp [hn]
      closed := ⟨p.closed.1, fun n => by
        rw [hrow, p.closed.2]
        exact hother (by simp) (by simp) n⟩
      charge := ⟨htags, fun n => by
        rw [hrow]
        split
        · rename_i hn; simp [hn]
        · rename_i hn
          have := p.charge.2 n
          simpa [hn] using this⟩
      seats := fun i n x => by
        rw [hrow, p.seats]
        exact hother (by simp) (by simp) n
      named := fun n x st h => by
        rw [hrow] at h
        split at h
        · simp at h; simp [← h.1, ← h.2]
        · exact p.named n x st h }

/-- R26: the first tags of the Closed List are freed with their records. -/
theorem Places.takeClosed (p : Places t charge seat) (k : Nat) :
    Places
      { t with
        units := t.units.filter fun u => u.tag ∉ t.closedList.take k
        closedList := t.closedList.drop k }
      charge seat := by
  have hrow (n : Nat) : row (t.units.filter fun u => decide (u.tag ∉ t.closedList.take k)) n
      = if n ∈ t.closedList.take k then none else row t.units n := by
    rw [row_filter_tag (p := fun n => decide (n ∉ t.closedList.take k))]
    by_cases h : n ∈ t.closedList.take k <;> simp [h]
  have hclosed {n : Nat} (h : n ∈ t.closedList.take k) : row t.units n = some (.closed, none) :=
    (p.closed.2 n).mp (List.mem_of_mem_take h)
  have hother {r : Row} (h : r ≠ (.closed, none)) (n : Nat) :
      row t.units n = some r ↔ (if n ∈ t.closedList.take k then none else row t.units n) = some r := by
    split
    · rename_i hn
      rw [hclosed hn]
      exact ⟨fun e => absurd (Option.some.inj e).symm h, nofun⟩
    · rfl
  exact
    { tags := UnitsFit.filter.tags p.tags
      degas := by
        refine p.degas.trans ?_
        unfold tagsIn
        rw [List.filter_filter]
        congr 1
        refine List.filter_congr fun u hu => ?_
        by_cases hx : u.state = .admitted
        · have : u.tag ∉ t.closedList.take k := fun hn => by
            have := hclosed hn
            rw [row_eq_of_mem p.tags hu, Option.some.injEq, rowOf_eq] at this
            rw [this.1] at hx; cases hx
          simp [hx, this]
        · simp [hx]
      shred := ⟨p.shred.1, fun n => by rw [hrow, p.shred.2]; exact hother (by simp) n⟩
      closed := ⟨p.closed.1.sublist (List.drop_sublist _ _), fun n => by
        rw [hrow]
        have hsplit : n ∈ t.closedList.take k ∨ n ∈ t.closedList.drop k ↔ row t.units n = some (.closed, none) := by
          rw [← p.closed.2, ← List.mem_append, List.take_append_drop]
        split
        · rename_i hn
          have hnodup := p.closed.1
          rw [← List.take_append_drop k t.closedList, List.nodup_append] at hnodup
          exact ⟨fun h => absurd rfl (hnodup.2.2 n hn n h), nofun⟩
        · rename_i hn
          rw [← hsplit]; simp [hn]⟩
      charge := ⟨p.charge.1, fun n => by rw [hrow, p.charge.2]; exact hother (by simp) n⟩
      seats := fun i n x => by rw [hrow, p.seats]; exact hother (by simp) n
      named := fun n x st h => by
        rw [hrow] at h
        split at h
        · cases h
        · exact p.named n x st h }

/-- R182: the records of the Closed List alone are kept. -/
theorem Places.restart (p : Places t charge seat) : Places t.restart [] fun _ => none := by
  have hrow (n : Nat) : row (t.units.filter fun u => u.state = .closed) n
      = if row t.units n = some (.closed, none) then some (.closed, none) else none := by
    have htags : TagsIn (t.units.filter fun u => u.state = .closed) := UnitsFit.filter.tags p.tags
    split
    · rename_i h
      obtain ⟨u, hu, rfl, hr⟩ := exists_of_row h
      rw [← hr]
      exact row_eq_of_mem htags (List.mem_filter.mpr ⟨hu, by simp [(rowOf_eq.mp hr).1]⟩)
    · rename_i h
      refine Classical.byContradiction fun hne => ?_
      obtain ⟨r, hr⟩ := Option.ne_none_iff_exists'.mp hne
      obtain ⟨u, hu, rfl, -⟩ := exists_of_row hr
      obtain ⟨hmem, hclosed⟩ := List.mem_filter.mp hu
      simp only [decide_eq_true_eq] at hclosed
      have hrow := row_eq_of_mem p.tags hmem
      rw [rowOf, hclosed] at hrow
      rw [(p.named _ _ _ hrow).mpr (by decide)] at hrow
      exact h hrow
  exact
    { tags := UnitsFit.filter.tags p.tags
      degas := by
        have : tagsIn .admitted (t.units.filter fun u => u.state = .closed) = [] := by
          unfold tagsIn
          rw [List.filter_filter, List.map_eq_nil_iff, List.filter_eq_nil_iff]
          intro u _ h
          simp only [Bool.and_eq_true, decide_eq_true_eq] at h
          rw [h.1] at h; cases h.2
        exact this.symm
      shred := ⟨List.nodup_nil, fun n => by rw [Tracker.restart, hrow]; split <;> simp⟩
      closed := ⟨p.closed.1, fun n => by rw [Tracker.restart, hrow, p.closed.2]; split <;> simp_all⟩
      charge := ⟨List.nodup_nil, fun n => by rw [Tracker.restart, hrow]; split <;> simp⟩
      seats := fun i n x => by rw [Tracker.restart, hrow]; split <;> simp
      named := fun n x st h => by
        rw [Tracker.restart, hrow] at h
        split at h
        · simp at h; simp [← h.1, ← h.2]
        · cases h }

end moves

end Sys2Proof.Proofs.RecordPlaces

/-! # Every rule keeps the places

`Calm s t`: no record and no station changes its place from `s` to `t`. The rules that move a record do so by one of the moves on
`Places`, and everything around the move is calm. -/

namespace Sys2Proof.Proofs.RecordPlaces
open Sys2Proof Sys2Proof.Machine Sys2Proof.Proofs.Frames Sys2Proof.Proofs.Steps Sys2Proof.Proofs.Soundness
  Sys2Proof.Proofs.LineModes

set_option Elab.async false

/-- A station goes on holding what it held. -/
def StaysSeated (st st' : Station) : Prop := st'.unit = st.unit ∧ st'.state.holds = st.state.holds

/-- No record and no station changes its place. -/
structure Calm (s t : State) : Prop where
  stations : ∀ i, StaysSeated (s.station i) (t.station i)
  units : ∃ f : UnitRecord → UnitRecord, (∀ u, (f u).tag = u.tag ∧ rowOf (f u) = rowOf u)
    ∧ t.tracker.units = s.tracker.units.map f
  queues : t.tracker.degasQueue = s.tracker.degasQueue ∧ t.tracker.shredQueue = s.tracker.shredQueue
    ∧ t.tracker.closedList = s.tracker.closedList
  standing : t.chamber.standing.units = s.chamber.standing.units ∧ t.chamber.standing.isVoid = s.chamber.standing.isVoid

section calm
variable {s t u : State} {seat : Seats} {n : Nat} {i : StationNo}

theorem StaysSeated.refl (st : Station) : StaysSeated st st := ⟨rfl, rfl⟩

theorem StaysSeated.trans {a b c : Station} (h : StaysSeated a b) (h' : StaysSeated b c) : StaysSeated a c :=
  ⟨h'.1.trans h.1, h'.2.trans h.2⟩

theorem Calm.refl (s : State) : Calm s s :=
  ⟨fun _ => .refl _, ⟨id, fun _ => ⟨rfl, rfl⟩, by simp⟩, ⟨rfl, rfl, rfl⟩, rfl, rfl⟩

theorem Calm.after (h' : Calm t u) (h : Calm s t) : Calm s u := by
  obtain ⟨f, hf, hu⟩ := h.units
  obtain ⟨g, hg, hu'⟩ := h'.units
  obtain ⟨h1, h2, h3⟩ := h.queues
  obtain ⟨h1', h2', h3'⟩ := h'.queues
  exact ⟨fun i => (h.stations i).trans (h'.stations i),
    ⟨g ∘ f, fun u => ⟨(hg _).1.trans (hf u).1, (hg _).2.trans (hf u).2⟩, by rw [hu', hu, List.map_map]⟩,
    ⟨h1'.trans h1, h2'.trans h2, h3'.trans h3⟩, h'.standing.1.trans h.standing.1, h'.standing.2.trans h.standing.2⟩

theorem Calm.of_differs {k : List Block} (d : Differs k s t) (h : .stations ∉ k := by decide)
    (h' : .chamber ∉ k := by decide) (h'' : .tracker ∉ k := by decide) : Calm s t := by
  have htracker := d.tracker h''
  have hchamber := d.chamber h'
  exact ⟨fun i => by rw [d.station i h]; exact .refl _, ⟨id, fun _ => ⟨rfl, rfl⟩, by simp [htracker]⟩,
    by rw [htracker]; exact ⟨rfl, rfl, rfl⟩, by rw [hchamber]; exact ⟨rfl, rfl⟩⟩

theorem Calm.setStation {x : Station} (h : StaysSeated (s.station i) x) : Calm s (s.setStation i x) :=
  ⟨fun j => by
      rw [State.setStation_station]; split
      · rename_i e; subst e; exact h
      · exact .refl _,
    ⟨id, fun _ => ⟨rfl, rfl⟩, by simp⟩, ⟨rfl, rfl, rfl⟩, rfl, rfl⟩

theorem Calm.modifyUnit {tag : Nat} {f : UnitRecord → UnitRecord} (h : ∀ u, (f u).tag = u.tag ∧ rowOf (f u) = rowOf u) :
    Calm s (s.modifyUnit tag f) :=
  ⟨fun _ => .refl _, ⟨fun u => if u.tag = tag then f u else u, fun u => by
      dsimp only; split
      · exact h u
      · exact ⟨rfl, rfl⟩, rfl⟩, ⟨rfl, rfl, rfl⟩, rfl, rfl⟩

/-- The chamber's own data change, but not what it holds. -/
theorem Calm.setChamber {c : Chamber} (h : c.standing.units = s.chamber.standing.units)
    (h' : c.standing.isVoid = s.chamber.standing.isVoid) : Calm s (s.setChamber c) :=
  ⟨fun _ => .refl _, ⟨id, fun _ => ⟨rfl, rfl⟩, by simp⟩, ⟨rfl, rfl, rfl⟩, h, h'⟩

theorem Calm.foldl {α : Type} {f : State → α → State} (h : ∀ t a, Calm t (f t a)) (xs : List α) (s : State) :
    Calm s (xs.foldl f s) := by
  induction xs generalizing s with
  | nil => exact .refl s
  | cons x xs ih => exact (ih _).after (h s x)

theorem Calm.placed (h : Calm s t) (p : Placed seat s) : Placed seat t := by
  obtain ⟨f, hf, hu⟩ := h.units
  obtain ⟨hdegas, hshred, hclosed⟩ := h.queues
  obtain ⟨p, hvoid⟩ := p
  refine ⟨?_, by rw [h.standing.1, h.standing.2]; exact hvoid⟩
  rw [h.standing.1]
  refine p.congr ?_ ?_ (fun n => ?_) hshred hclosed
  · rw [hu]; exact (UnitsFit.map fun u => (hf u).1).tags p.tags
  · rw [hdegas, p.degas, hu]
    exact (tagsIn_map (fun u => (hf u).1) fun u _ => by rw [← show (rowOf u).1 = u.state from rfl, ← (hf u).2]; rfl).symm
  · rw [hu, row_map fun u => (hf u).1, row]
    simp only [(hf _).2]

theorem seatOf_congr {st st' : Station} (h : StaysSeated st st') : seatOf st' = seatOf st := by
  unfold seatOf; rw [h.1, h.2]

theorem Calm.settled (h : Calm s t) (p : Settled s) : Settled t := by
  have hseats : seatsOf t = seatsOf s := funext fun i => seatOf_congr (h.stations i)
  refine ⟨by rw [hseats]; exact h.placed p.1, fun i => ?_⟩
  unfold Seated
  rw [(h.stations i).1, (h.stations i).2]
  exact p.2 i

/-- What is done at one station, with what is done for the records and the chamber around it. -/
theorem Settled.reseat {o : Option (Nat × UnitState)} (h : Settled s) (p : Placed (reseat (seatsOf s) i o) t)
    (hother : ∀ j, j ≠ i → t.station j = s.station j) (hseat : seatOf (t.station i) = o) (hseated : Seated (t.station i)) :
    Settled t := by
  have hseats : seatsOf t = RecordPlaces.reseat (seatsOf s) i o := funext fun j => by
    unfold RecordPlaces.reseat seatsOf
    by_cases e : j = i
    · subst e; simp [hseat]
    · simp [e, hother j e]
  refine ⟨by rw [hseats]; exact p, fun j => ?_⟩
  by_cases e : j = i
  · subst e; exact hseated
  · rw [hother j e]; exact h.2 j

/-! ### Rules that leave every place -/

theorem report_row (a : Anomaly) (u : UnitRecord) : rowOf (u.report a) = rowOf u := by
  unfold UnitRecord.report; dsimp only; repeat' split
  all_goals rfl

theorem reportAnomaly_calm {tag : Nat} {a : Anomaly} : Calm s (s.reportAnomaly tag a) :=
  .modifyUnit fun u => by
    split
    · exact ⟨rfl, rfl⟩
    · exact ⟨report_tag a u, report_row a u⟩

theorem reportFrom_calm {o : Option Nat} {a : Anomaly} : Calm s (s.reportFrom o a) := by
  cases o
  · exact .refl _
  · exact reportAnomaly_calm

/-- The five states of a cycle hold a DEGASSING record. -/
theorem toReleasing_seated {st : Station} (h : st.state.holds = some .degassing) : StaysSeated st st.toReleasing :=
  ⟨rfl, h.symm⟩

theorem releaseWith_calm {a : Anomaly} (h : (s.station i).state.holds = some .degassing) : Calm s (s.releaseWith i a) := by
  have hs : (s.reportFrom (s.station i).unit a).station i = s.station i := reportFrom_differs.station i
  exact .after (.setStation (toReleasing_seated (by rw [hs]; exact h))) reportFrom_calm

theorem loseSignal_calm (h : (s.station i).state.holds = some .degassing) : Calm s (s.loseSignal i) := by
  have hs : (s.reportFrom (s.station i).unit .stationSignalLost).station i = s.station i := reportFrom_differs.station i
  exact .after (.setStation ⟨rfl, by rw [hs, h]; rfl⟩) reportFrom_calm

theorem enterEvacuation_seated {st st' : Station} {b : Causes} (hunit : st'.unit = st.unit)
    (h : st.state.holds = some .degassing) : StaysSeated st (st'.enterEvacuation b) := by
  unfold Station.enterEvacuation; split <;> exact ⟨hunit, h.symm⟩

theorem entryCheck_calm (h : (s.station i).state.holds = some .degassing) : Calm s (s.entryCheck i) :=
  .setStation (enterEvacuation_seated rfl h)

theorem handCause_calm {c : Causes} {f : Family} : Calm s (s.handCause c f i) := by
  unfold State.handCause; dsimp only; split
  · rename_i h
    exact .setStation ⟨rfl, by rw [h.1]; rfl⟩
  · exact .refl _

theorem handCauseToAll_calm {c : Causes} {f : Family} : Calm s (s.handCauseToAll c f) :=
  .foldl (fun _ _ => handCause_calm) _ s

theorem removeCause_calm {c : Causes} : Calm s (s.removeCause c i) := by
  unfold State.removeCause; dsimp only; split
  · rename_i hstate
    have hset : Calm s (s.setStation i { s.station i with causes := (s.station i).causes.without c }) :=
      .setStation ⟨rfl, rfl⟩
    split
    · exact .after (entryCheck_calm (by simp [hstate, StationState.holds])) hset
    · exact hset
  · exact .refl _

theorem removeReceiverCause_calm {f : Family} : Calm s (s.removeReceiverCause f) :=
  .foldl (fun _ _ => by
    split
    · exact removeCause_calm
    · exact .refl _) _ s

theorem removeTripCause_calm : Calm s s.removeTripCause := .foldl (fun _ _ => removeCause_calm) _ s

theorem note_calm {before : Vector Station 4} : Calm s (s.noteStations before) := .of_differs noteStations_differs

theorem raise_calm {x : Notice} : Calm s (s.raise x) := .of_differs raise_differs

theorem seePresence_seated (x : Scan) (st : Station) : StaysSeated st (st.seePresence i x) := by
  unfold Station.seePresence; split <;> exact ⟨rfl, rfl⟩

theorem sampleTrace_seated (k now flow : Nat) (st : Station) : StaysSeated st (st.sampleTrace k now flow) := by
  unfold Station.sampleTrace; split <;> exact ⟨rfl, rfl⟩

theorem testVacuum_seated {target : Nat} {st : Station} (h : st.state.holds = some .degassing) :
    StaysSeated st (st.testVacuum target) := by
  unfold Station.testVacuum; split
  · exact ⟨rfl, h.symm⟩
  · exact .refl st

theorem evacuate_calm {x : Scan} (h : (s.station i).state.holds = some .degassing) : Calm s (s.evacuate i x) := by
  unfold State.evacuate; extract_lets flow increment st st' st''
  have hst' : StaysSeated (s.station i) st' := ⟨rfl, rfl⟩
  have hsample := hst'.trans (sampleTrace_seated s.timing.traceInterval s.now flow st')
  have hfit : StaysSeated (s.station i) st'' := hsample.trans (testVacuum_seated (hsample.2.trans h))
  exact .after (.of_differs deliver_differs) (.setStation hfit)

theorem runCycle_calm {x : Scan} : Calm s (s.runCycle i x) := by
  unfold State.runCycle; dsimp only; split
  case h_5 => exact .refl _
  case h_4 h =>
    split
    · exact loseSignal_calm (by rw [h]; rfl)
    · exact evacuate_calm (by rw [h]; rfl)
  all_goals
    rename_i h
    split
    · exact loseSignal_calm (by rw [h]; rfl)
    · exact .setStation ⟨rfl, rfl⟩

theorem pierceEnd_calm (h : (s.station i).state = .piercing) : Calm s (s.pierceEnd i) := by
  have hh : (s.station i).state.holds = some .degassing := by rw [h]; rfl
  unfold State.pierceEnd; split
  · exact releaseWith_calm hh
  · exact .after (entryCheck_calm (by simpa using hh)) (.setStation ⟨rfl, rfl⟩)

theorem holdEnd_calm (h : (s.station i).state = .holding) : Calm s (s.holdEnd i) := by
  have hh : (s.station i).state.holds = some .degassing := by rw [h]; rfl
  have hrise {o : Option Int} : Calm s (s.setStation i { s.station i with lastRise := o }) := .setStation ⟨rfl, rfl⟩
  unfold State.holdEnd; dsimp only; repeat' split
  · exact .after (entryCheck_calm (by simpa using hh)) (.after (.setStation ⟨rfl, rfl⟩) hrise)
  · exact .after (releaseWith_calm (by simpa using hh)) hrise
  · exact .after (.setStation (toReleasing_seated (by simpa using hh))) hrise

theorem elapse_seated (k : Nat) (st : Station) : StaysSeated st (st.elapse k) := by
  unfold Station.elapse; split <;> exact ⟨rfl, rfl⟩

theorem elapse_calm (k : Nat) : Calm s (s.elapse k) := by
  refine ⟨fun i => by rw [State.elapse_station]; exact elapse_seated k _, ⟨id, fun _ => ⟨rfl, rfl⟩, by simp [State.elapse]⟩,
    ⟨rfl, rfl, rfl⟩, ?_⟩
  show (s.chamber.standing.elapse k).units = _ ∧ (s.chamber.standing.elapse k).isVoid = _
  generalize s.chamber.standing = x
  unfold ChamberStanding.elapse; split
  · split <;> exact ⟨rfl, rfl⟩
  · exact ⟨rfl, rfl⟩

end calm

/-! ### The arbiter -/

section arbiter
variable {s t : State} {seat : Seats} {n : Nat} {i : StationNo}

theorem nextAssignment_queued (h : s.nextAssignment = some (n, i)) : n ∈ s.tracker.degasQueue := by
  unfold State.nextAssignment at h
  split at h
  · rename_i htag
    simp only [Option.some.injEq, Prod.mk.injEq] at h
    obtain ⟨rfl, -⟩ := h
    exact List.mem_of_find?_eq_some htag
  · cases h

theorem assign_settled (h : Settled s) (hidle : (s.station i).state = .idle) (hn : n ∈ s.tracker.degasQueue) :
    Settled (s.assign n i) := by
  have hunit : (s.station i).unit = none := unit_none (h.2 i) (by rw [hidle]; rfl)
  refine raise_calm.settled (h.reseat (i := i) (o := some (n, .assigned)) ⟨?_, h.1.2⟩ (fun j hj => ?_) ?_ ?_)
  · exact h.1.1.assign hn (by simp [seatsOf, seatOf, hunit]) (fun _ => rfl) fun _ => rfl
  · rw [State.setStation_station_ne _ _ _ _ (Ne.symm hj)]; rfl
  · simp [seatOf, StationState.holds]
  · simp [Seated, StationState.holds]

theorem assignUpTo_settled {k : Nat} (h : Settled s) : Settled (s.assignUpTo k) := by
  induction k generalizing s with
  | zero => exact h
  | succ k ih =>
    unfold State.assignUpTo; split
    · exact h
    · rename_i hnext
      exact ih (assign_settled h (nextAssignment_idle hnext) (nextAssignment_queued hnext))

theorem arbiterPass_settled (h : Settled s) : Settled s.arbiterPass := by
  unfold State.arbiterPass; split
  · exact assignUpTo_settled h
  · exact h

end arbiter

/-! ### Loading and closing -/

section chamber
variable {s t : State} {seat : Seats} {n : Nat} {i : StationNo}

/-- R94: the boundary loads the head of the Shred Queue, or nothing into a void charge. -/
theorem boundary_placed (p : Placed seat s) (h : s.chamber.standing.units = []) : Placed seat s.boundary := by
  unfold State.boundary; extract_lets void t units u c v
  have ht : Differs [.chamber, .notices] s t := applySettings_differs
  have hunits : units <+: t.tracker.shredQueue := by
    unfold units; split
    · exact List.nil_prefix
    · exact (List.take_prefix _ _).trans (List.takeWhile_prefix _)
  have hp : Places t.tracker [] seat := by
    rw [ht.tracker, ← h]; exact p.1
  refine raise_calm.placed ⟨hp.load hunits, fun hv => ?_⟩
  have hv : void = true := hv
  show units = []
  simp [units, hv]

theorem waitingDecision_placed (p : Placed seat s) : Placed seat s.waitingDecision := by
  have mismatch {tag : Nat} : Calm s (s.mismatchReport tag) := by
    unfold State.mismatchReport; repeat' split
    · exact .refl _
    · exact .refl _
    · exact .refl _
    · exact raise_calm.after (.setChamber rfl rfl)
  unfold State.waitingDecision; split
  · rename_i hwaiting
    have hnone : s.chamber.standing.units = [] := by rw [hwaiting]; rfl
    repeat' split
    · exact boundary_placed p hnone
    · exact p
    · exact boundary_placed p hnone
    · exact mismatch.placed p
  · exact p

theorem joinShredQueue_placed {tag : Nat}
    (p : Placed seat (s.setTracker { s.tracker with shredQueue := s.tracker.shredQueue ++ [tag] })) :
    Placed seat (s.joinShredQueue tag) := by
  unfold State.joinShredQueue; dsimp only; split
  · exact waitingDecision_placed p
  · exact p

theorem leaveShredQueue_placed {tag : Nat}
    (p : Placed seat (s.setTracker { s.tracker with shredQueue := s.tracker.shredQueue.erase tag })) :
    Placed seat (s.leaveShredQueue tag) := by
  unfold State.leaveShredQueue; dsimp only; split
  · exact waitingDecision_placed p
  · exact p

theorem atChargeEnd_row (k : Nat) (f : ChargeFlags) (u : UnitRecord) : rowOf (u.atChargeEnd k f) = rowOf u := by
  unfold UnitRecord.atChargeEnd; dsimp only; repeat' split
  · rw [report_row, report_row]; rfl
  · rw [report_row]; rfl
  · rw [report_row]; rfl
  · rfl

/-- R127: a unit of the charge is closed. -/
theorem closeUnit_places {charge : List Nat} {r : ChargeRecord} {x : Nat × Nat} (p : Places s.tracker charge seat)
    (hx : x.1 ∈ charge) : Places (s.closeUnit r x).tracker (charge.erase x.1) seat := by
  have hrow := (p.charge.2 x.1).mp hx
  obtain ⟨u, hu, hr⟩ := Option.map_eq_some_iff.mp hrow
  obtain ⟨hstate, hstation⟩ := rowOf_eq.mp hr
  have hfind : s.findUnit x.1 = some u := hu
  unfold State.closeUnit
  rw [hfind]
  simp only [hstate, if_true, State.raise_tracker, State.setShift_tracker]
  refine p.close hrow (fun v hv => ?_) fun v => ?_
  · simp [atChargeEnd_tag, findUnit_tag hfind, hv]
  · have := atChargeEnd_row x.2 r.flags u
    rw [rowOf_eq.mpr ⟨hstate, hstation⟩, rowOf_eq] at this
    exact rowOf_eq.mpr ⟨rfl, this.2⟩

theorem closeUnits_places {r : ChargeRecord} {xs : List (Nat × Nat)} (p : Places s.tracker (xs.map (·.1)) seat) :
    Places (s.closeUnits r xs).tracker [] seat := by
  unfold State.closeUnits
  induction xs generalizing s with
  | nil => exact p
  | cons x xs ih =>
    have h := closeUnit_places (r := r) p (x := x) (by simp)
    rw [List.map_cons, List.erase_cons_head] at h
    exact ih h

theorem map_fst_apportion {flags : ChargeFlags} {mass : Nat} {tags : List Nat} (h : flags.void = true → tags = []) :
    (s.apportion flags mass tags).map (·.1) = tags := by
  unfold State.apportion; split
  · rename_i hv
    simp [h hv]
  · rw [List.map_fst_zip]
    simp [Apportionment.shares_length, State.weightsOf]

/-- R94: the end of a charge closes the units it holds, and all of them. -/
theorem endCharge_places {b : Bool} {c : Charge} (p : Places s.tracker c.units seat)
    (hvoid : c.flags.void = true → c.units = []) : Places (s.endCharge b c).tracker [] seat := by
  unfold State.endCharge; extract_lets _ flags mass r t u v
  have hflags : flags.void = c.flags.void := by unfold flags; split <;> rfl
  have hmap : r.units.map (·.1) = c.units := map_fst_apportion (by rw [hflags]; exact hvoid)
  have hu : Places u.tracker (r.units.map (·.1)) seat := by rw [hmap]; exact p
  rw [State.raise_tracker]
  exact closeUnits_places hu

theorem charge_void {c : Charge} (p : Placed seat s) (h : s.chamber.standing = .charging c) :
    c.flags.void = true → c.units = [] := by
  have := p.2
  rwa [h] at this

/-- A charge that ends leaves a chamber that holds nothing. -/
theorem endCharge_placed {b : Bool} {c : Charge} {x : Chamber} (p : Placed seat s) (h : s.chamber.standing.units = c.units)
    (h' : s.chamber.standing.isVoid = c.flags.void) (hx : x.standing.units = []) :
    Placed seat ((s.endCharge b c).setChamber x) := by
  have hvoid := p.2
  rw [h, h'] at hvoid
  refine ⟨?_, fun _ => hx⟩
  show Places _ x.standing.units seat
  rw [hx]
  exact endCharge_places (by rw [← h]; exact p.1) hvoid

theorem endNormally_placed {c : Charge} (p : Placed seat s) (h : s.chamber.standing.units = c.units)
    (h' : s.chamber.standing.isVoid = c.flags.void) : Placed seat (s.endNormally c) := by
  unfold State.endNormally; dsimp only; split
  · exact endCharge_placed p h h' rfl
  · exact waitingDecision_placed (endCharge_placed p h h' rfl)

theorem haltChamber_placed (p : Placed seat s) : Placed seat s.haltChamber := by
  unfold State.haltChamber
  split
  · rename_i c hc
    exact endCharge_placed p (by rw [hc]; rfl) (by rw [hc]; rfl) rfl
  · rename_i hnone
    refine (Calm.setChamber ?_ ?_).placed p <;>
      (cases hs : s.chamber.standing with
       | charging c => exact absurd hs (hnone c)
       | _ => rfl)

/-- A rule that leaves the stations and the places keeps the agreement. -/
theorem Settled.of_placed {k : List Block} (h : Settled s) (p : Placed (seatsOf s) t) (d : Differs k s t)
    (hk : .stations ∉ k := by decide) : Settled t := by
  have hs (i : StationNo) := d.station i hk
  have hseats : seatsOf t = seatsOf s := funext fun i => by unfold seatsOf; rw [hs]
  exact ⟨by rw [hseats]; exact p, fun i => by rw [hs]; exact h.2 i⟩

theorem tripEntry_settled {a : TripCauses} (h : Settled s) : Settled (s.tripEntry a) := by
  unfold State.tripEntry; extract_lets before _ t _ u _ v w x y
  have hw : Settled w := (Calm.of_differs
    (((setMode_differs.seq setProtection_differs).seq setShift_differs).seq raise_differs) : Calm s w).settled h
  have hx : Settled x := hw.of_placed (haltChamber_placed hw.1) haltChamber_differs
  exact (note_calm.after handCauseToAll_calm).settled hx

theorem addCauses_settled {a : TripCauses} (h : Settled s) : Settled (s.addCauses a) := by
  unfold State.addCauses; repeat' split
  · exact h
  · exact tripEntry_settled h
  · exact (Calm.of_differs joinCauses_differs).settled h

end chamber

end Sys2Proof.Proofs.RecordPlaces

/-! # Scans, timed ends and requests keep the places -/

namespace Sys2Proof.Proofs.RecordPlaces
open Sys2Proof Sys2Proof.Machine Sys2Proof.Proofs.Frames Sys2Proof.Proofs.Steps Sys2Proof.Proofs.Soundness
  Sys2Proof.Proofs.LineModes

set_option Elab.async false

/-! ### Stations -/

section stations
variable {s t : State} {seat : Seats} {n : Nat} {i : StationNo} {x : Scan}

/-- The record that a seat names is held, in the seat's state. -/
theorem findUnit_of_seat {y : UnitState} (p : Placed seat s) (h : seat i = some (n, y)) :
    ∃ u, s.findUnit n = some u ∧ u.state = y := by
  obtain ⟨u, hu, hr⟩ := Option.map_eq_some_iff.mp ((p.1.seats i n y).mp h)
  exact ⟨u, hu, (rowOf_eq.mp hr).1⟩

/-- R41: the removed appliance's record goes to the Shred Queue. -/
theorem unitRemoved_placed (p : Placed seat s) (h : seat i = some (n, .degassed)) :
    Placed (reseat seat i none) (s.unitRemoved n) := by
  obtain ⟨u, hu, hstate⟩ := findUnit_of_seat p h
  unfold State.unitRemoved
  rw [hu]
  simp only [hstate, if_true]
  exact joinShredQueue_placed ⟨p.1.unseat (.inr rfl) h (fun _ => rfl) fun _ => rfl, p.2⟩

/-- R48: a pulled appliance's record goes to the Shred Queue. -/
theorem unitPulled_placed {d : DegasResult} (p : Placed seat s) (h : seat i = some (n, .degassing)) :
    Placed (reseat seat i none) (s.unitPulled n d) := by
  obtain ⟨u, hu, hstate⟩ := findUnit_of_seat p h
  unfold State.unitPulled
  rw [hu]
  simp only [hstate, if_true]
  exact joinShredQueue_placed ⟨p.1.unseat (.inl rfl) h (fun _ => rfl) fun _ => rfl, p.2⟩

theorem removeAppliance_settled (h : Settled s) (hx : (s.station i).state = .unloading) : Settled (s.removeAppliance i) := by
  obtain ⟨n, hunit, hseat⟩ := seatOf_eq (h.2 i) (x := .degassed) (by rw [hx]; rfl)
  have p : Placed (reseat (seatsOf s) i none) (s.unitRemoved n) := unitRemoved_placed h.1 hseat
  have moved {y : Station} (hy : y.state = .idle ∨ y.state = .faulted) (hu : y.unit = none) :
      Settled ((s.unitRemoved n).setStation i y) :=
    h.reseat (i := i) (o := none) p
      (fun j hj => by rw [State.setStation_station_ne _ _ _ _ (Ne.symm hj), unitRemoved_differs.station])
      (by simp [seatOf, hu]) (by rw [State.setStation_station_self]; rcases hy with hy | hy <;> simp [Seated, hu, hy, StationState.holds])
  unfold State.removeAppliance
  rw [hunit]; dsimp only
  split
  · exact arbiterPass_settled (moved (.inl rfl) rfl)
  · exact moved (.inr rfl) rfl

theorem pull_settled (h : Settled s) (hx : (s.station i).state.holds = some .degassing) : Settled (s.pull i) := by
  obtain ⟨n, hunit, hseat⟩ := seatOf_eq (h.2 i) hx
  unfold State.pull
  rw [hunit]; extract_lets t u st
  have hst (j : StationNo) : t.station j = s.station j := reportFrom_differs.station j
  have ht : Settled t := reportFrom_calm.settled h
  have hu : u = t.unitPulled n ((t.station i).result i t.now) := by
    unfold u; rw [hst i, hunit]
  have p : Placed (reseat (seatsOf t) i none) u := by
    rw [hu]; exact unitPulled_placed ht.1 (by unfold seatsOf; rw [hst i]; exact hseat)
  refine ht.reseat (i := i) (o := none) p (fun j hj => ?_) (by simp [seatOf]) (by simp [Seated, StationState.holds])
  rw [State.setStation_station_ne _ _ _ _ (Ne.symm hj), hu, unitPulled_differs.station]

theorem fallInCycle_settled (h : Settled s) (hx : (s.station i).state.holds = some .degassing) :
    Settled (s.fallInCycle i x) := by
  unfold State.fallInCycle; split
  · have hc := loseSignal_calm hx
    exact pull_settled (hc.settled h) ((hc.stations i).2.trans hx)
  · exact pull_settled h hx

theorem presenceFall_settled (h : Settled s) : Settled (s.presenceFall i x) := by
  unfold State.presenceFall; split
  case h_1 hx => exact removeAppliance_settled h hx
  case h_6 hx => exact pull_settled h (by rw [hx]; rfl)
  case h_7 => exact h
  all_goals
    rename_i hx
    exact fallInCycle_settled h (by rw [hx]; rfl)

/-- R18, R33: a record begins its cycle with its station. -/
theorem arrive_settled (h : Settled s) (hx : (s.station i).state = .assigned) : Settled (s.arrive i x) := by
  obtain ⟨n, hunit, hseat⟩ := seatOf_eq (h.2 i) (x := .assigned) (by rw [hx]; rfl)
  obtain ⟨u, hu, hstate⟩ := findUnit_of_seat h.1 hseat
  unfold State.arrive; extract_lets t v
  have ht : t.station i = (s.station i).beginCycle s.now (pressureAt i x) := State.setStation_station_self ..
  have hv : v = t.reportCycleStart n := by
    unfold v; rw [ht]; simp [Station.beginCycle, hunit]
  have hvs : v.station i = (s.station i).beginCycle s.now (pressureAt i x) := by rw [hv, reportCycleStart_differs.station, ht]
  have hsettled : Settled v := by
    refine h.reseat (i := i) (o := some (n, .degassing)) ?_ (fun j hj => ?_) ?_ ?_
    · rw [hv]
      refine ⟨h.1.1.advance (.inl ⟨rfl, rfl⟩) hseat (fun u => by split <;> rfl) fun u hr => ?_, h.1.2⟩
      obtain ⟨hu, hi⟩ := rowOf_eq.mp hr
      simp [rowOf, hu, hi]
    · rw [hv, reportCycleStart_differs.station]
      exact State.setStation_station_ne _ _ _ _ (Ne.symm hj)
    · simp [hvs, seatOf, Station.beginCycle, hunit, StationState.holds]
    · simp [hvs, Seated, Station.beginCycle, hunit, StationState.holds]
  split
  · exact (loseSignal_calm (by rw [hvs]; rfl)).settled hsettled
  · exact hsettled

theorem presenceRise_settled (h : Settled s) : Settled (s.presenceRise i x) := by
  unfold State.presenceRise; split
  case h_1 hx => exact arrive_settled h hx
  case h_5 => exact runCycle_calm.settled h
  all_goals exact raise_calm.settled h

theorem stationScan_settled (h : Settled s) : Settled (s.stationScan i x) := by
  have hseen : Settled (s.setStation i ((s.station i).seePresence i x)) :=
    (Calm.setStation (seePresence_seated x _)).settled h
  unfold State.stationScan; dsimp only
  refine note_calm.settled ?_
  split
  · exact presenceRise_settled hseen
  · exact presenceFall_settled hseen
  · exact runCycle_calm.settled hseen

/-- R40: a record's degassing ends with its station's. -/
theorem releaseEnd_settled (h : Settled s) (hx : (s.station i).state = .releasing) : Settled (s.releaseEnd i) := by
  obtain ⟨n, hunit, hseat⟩ := seatOf_eq (h.2 i) (x := .degassing) (by rw [hx]; rfl)
  unfold State.releaseEnd; dsimp only; rw [hunit]; dsimp only
  have hs (j : StationNo) : (s.handResult n ((s.station i).result i s.now)).station j = s.station j :=
    handResult_differs.station j
  refine h.reseat (i := i) (o := some (n, .degassed)) ⟨h.1.1.advance (.inr ⟨rfl, rfl⟩) hseat (fun u => by split <;> rfl)
    fun u hr => ?_, h.1.2⟩ (fun j hj => ?_) ?_ ?_
  · obtain ⟨hu, hi⟩ := rowOf_eq.mp hr
    simp [rowOf, hu, hi]
  · rw [State.setStation_station_ne _ _ _ _ (Ne.symm hj), hs]
  · simp [hs, seatOf, hunit, StationState.holds]
  · simp [hs, Seated, hunit, StationState.holds]

theorem receiverScan_settled {f : Family} (h : Settled s) : Settled (s.receiverScan f x) := by
  have hweighed : Calm s (s.setReceiver f ((s.receiver f).weigh (x.role (roleReceiverWeight f)))) :=
    .of_differs setReceiver_differs
  refine Calm.settled (.after ?_ hweighed) h
  unfold State.receiverScan State.detectFill; dsimp only; repeat' split
  · exact .after raise_calm (.after note_calm (handCauseToAll_calm.after (.of_differs setReceiver_differs)))
  · exact .refl _
  · exact .refl _

end stations

/-! ### The chamber's scans -/

section chamber
variable {s t : State} {x : Scan} {c d : Charge}

/-- A charge with the same units and the same void mark takes the place of the one that runs. -/
def Carries (c d : Charge) : Prop := d.units = c.units ∧ d.flags.void = c.flags.void

theorem setCharge_settled (h : Settled s) (hc : s.chamber.standing = .charging c) (hd : Carries c d) :
    Settled (s.setCharge d) :=
  (Calm.setChamber (by rw [hc]; exact hd.1) (by rw [hc]; exact hd.2) : Calm s (s.setCharge d)).settled h

theorem endNormally_settled (h : Settled s) (hc : s.chamber.standing = .charging c) (hd : Carries c d) :
    Settled (s.endNormally d) :=
  h.of_placed (endNormally_placed h.1 (by rw [hc]; exact hd.1.symm) (by rw [hc]; exact hd.2.symm)) endNormally_differs

theorem noteClamp_carries (b : Bool) (c : Charge) : Carries c (c.noteClamp b) := by
  unfold Charge.noteClamp; split <;> exact ⟨rfl, rfl⟩

theorem integrate_carries (k : Nat) (x : Scan) (c : Charge) : Carries c (c.integrate k x) :=
  noteClamp_carries _ _

theorem sumTail_carries (m : Family) (x : Scan) (c : Charge) : Carries c (c.sumTail m x) := by
  unfold Charge.sumTail; dsimp only; split
  · exact ⟨rfl, rfl⟩
  · exact noteClamp_carries _ _

theorem afterInertCheck_carries (b : Bool) (c : Charge) : Carries c (c.afterInertCheck b) := by
  unfold Charge.afterInertCheck; repeat' split
  all_goals exact ⟨rfl, rfl⟩

theorem chamberScan_settled (h : Settled s) : Settled (s.chamberScan x) := by
  unfold State.chamberScan; split
  · rename_i c hc
    have set {d : Charge} (hd : Carries c d) : Settled (s.setCharge d) := setCharge_settled h hc hd
    have done {d : Charge} (hd : Carries c d) : Settled (s.endNormally d) := endNormally_settled h hc hd
    have hint := integrate_carries s.densityInForce x c
    have hsum := sumTail_carries s.chamber.inForce.mode x c
    split
    · unfold State.loadScan; dsimp only; repeat' split
      · exact set ⟨rfl, rfl⟩
      · exact set (afterInertCheck_carries _ { c with index := c.index + 1 })
      · exact set ⟨rfl, rfl⟩
    · exact set (afterInertCheck_carries _ c)
    · unfold State.integrateThen; split
      · exact addCauses_settled (set ⟨rfl, rfl⟩)
      · unfold State.windowScan; dsimp only; split <;> exact set hint
    · unfold State.tailScan; dsimp only; repeat' split
      · exact addCauses_settled (set hsum)
      · exact done hsum
      · exact set hsum
      · exact set hsum
    · unfold State.integrateThen; split
      · exact addCauses_settled (set ⟨rfl, rfl⟩)
      · unfold State.ventScan; split
        · exact done hint
        · exact set hint
  · exact h

end chamber

/-! ### Requests -/

section requests
variable {s t : State} {seat : Seats} {n : Nat} {i : StationNo}

theorem row_none_of_new {o : Nat} (h : ¬(s.findUnit o).isSome = true) : row s.tracker.units o = none := by
  have : s.findUnit o = none := by simpa using h
  rw [row, ← Option.map_none]; exact congrArg _ this

theorem createUnit_settled {o : AdmitOperands} {b : Bool} (h : Settled s) (hnew : ¬(s.findUnit o.tag).isSome = true)
    (hzero : o.tag ≠ 0) : Settled (s.createUnit o b) := by
  refine h.of_placed ?_ createUnit_differs
  unfold State.createUnit; dsimp only; cases b
  · exact joinShredQueue_placed ⟨h.1.1.createQueued (u := newUnit o _ .shredQueued) (row_none_of_new hnew) hzero rfl, h.1.2⟩
  · exact ⟨h.1.1.create (u := newUnit o _ .admitted) (row_none_of_new hnew) hzero rfl, h.1.2⟩

theorem handleAdmit_settled {o : AdmitOperands} (h : Settled s) : Settled (handleAdmit o s).1 := by
  unfold handleAdmit; split
  · exact h
  · split
    · exact h
    · split
      · exact h
      · rename_i hgrounds
        split
        · exact h
        · split
          · exact h
          · rename_i hnew _
            exact note_calm.settled (arbiterPass_settled (createUnit_settled h hnew fun h0 => by simp [h0] at hgrounds))

theorem row_of_find {u : UnitRecord} (h : s.findUnit n = some u) : row s.tracker.units n = some (u.state, u.station) := by
  rw [row, show s.tracker.units.find? _ = some u from h]; rfl

/-- R24: WITHDRAW_UNIT frees a waiting record, and the station that waits for it. -/
theorem handleWithdraw_settled (h : Settled s) : Settled (handleWithdraw n s).1 := by
  unfold handleWithdraw; split
  · exact h
  · rename_i u hu
    have hrow := row_of_find hu
    have hnamed := h.1.1.named _ _ _ hrow
    split
    case h_1 hx =>
      rw [hx, hnamed.mpr (by rw [hx]; decide)] at hrow
      exact h.of_placed ⟨h.1.1.withdraw hrow, h.1.2⟩ (setTracker_differs.seq freeUnit_differs)
    case h_2 hx =>
      obtain ⟨i, hi⟩ : ∃ i, u.station = some i := Option.ne_none_iff_exists'.mp fun e => by
        have := hnamed.mp e
        rw [hx] at this; exact this (by decide)
      rw [hx, hi] at hrow
      have hrelease : s.releaseStation u = s.setStation i (s.station i).release := by unfold State.releaseStation; rw [hi]
      rw [hrelease]
      have hfreed : Settled ((s.setStation i (s.station i).release).freeUnit n) :=
        h.reseat (i := i) (o := none) ⟨h.1.1.withdrawAssigned hrow, h.1.2⟩
          (fun j hj => State.setStation_station_ne _ _ _ _ (Ne.symm hj))
          (by rw [freeUnit_differs.station]; simp [seatOf, Station.release])
          (by rw [freeUnit_differs.station]; simp [Seated, Station.release, StationState.holds])
      exact note_calm.settled (arbiterPass_settled hfreed)
    case h_3 hx =>
      rw [hx, hnamed.mpr (by rw [hx]; decide)] at hrow
      exact h.of_placed (leaveShredQueue_placed ⟨h.1.1.withdrawQueued hrow, h.1.2⟩) (freeUnit_differs.seq leaveShredQueue_differs)
    case h_4 => exact h

theorem handleSuspend_calm : Calm s (handleSuspend i s).1 := by
  unfold handleSuspend; dsimp only; split
  · exact .refl _
  · split
    · rename_i hx
      exact note_calm.after (.setStation ⟨rfl, by rw [hx]; rfl⟩)
    · split
      · exact .refl _
      · exact note_calm.after (.setStation ⟨rfl, rfl⟩)
    · exact .refl _

theorem handleAbort_calm : Calm s (handleAbort i s).1 := by
  unfold handleAbort; split
  case h_5 => exact .refl _
  all_goals
    rename_i hx
    exact note_calm.after (releaseWith_calm (by rw [hx]; rfl))

theorem handleLock_calm : Calm s (handleLock i s).1 := by
  unfold handleLock; split
  case h_1 hx => exact note_calm.after (.setStation ⟨rfl, by rw [hx]; rfl⟩)
  case h_2 hx => exact note_calm.after (.setStation ⟨rfl, by rw [hx]; rfl⟩)
  all_goals exact .refl _

theorem returnToService_settled (h : Settled s) (hx : (s.station i).state.holds = none) : Settled (s.returnToService i) :=
  have hset : Calm s (s.setStation i { s.station i with state := .idle, latch := none }) := .setStation ⟨rfl, hx.symm⟩
  arbiterPass_settled (hset.settled h)

theorem beginCylinder_settled {f : Family} {c : Cylinder} (h : Settled s) : Settled (s.beginCylinder f c) := by
  have hr : Settled (s.setReceiver f { s.receiver f with standing := .inUse c }) :=
    (Calm.of_differs setReceiver_differs).settled h
  exact note_calm.settled (arbiterPass_settled
    (raise_calm.settled (note_calm.settled (removeReceiverCause_calm.settled hr))))

theorem clearTrip_settled (h : Settled s) : Settled s.clearTrip := by
  have cleared {t : State} : Calm t t.clearChamber := by
    unfold State.clearChamber; split
    · rename_i hx
      exact .setChamber (by rw [hx]; rfl) (by rw [hx]; rfl)
    · exact .refl _
  have hmode : Settled ((s.setProtection { s.protection with causes := .empty, clearHold := none }).setLink
      { s.link with mode := .running }) := (Calm.of_differs (setProtection_differs.seq setMode_differs)).settled h
  exact note_calm.settled (arbiterPass_settled (raise_calm.settled (note_calm.settled
    (removeTripCause_calm.settled (cleared.settled hmode)))))

/-- R182: LINE_RESTART empties every place but the Closed List. -/
theorem lineRestart_settled (h : Settled s) : Settled s.lineRestart := by
  unfold State.lineRestart; extract_lets _ _ _ t
  have hst (i : StationNo) : t.station i = (s.station i).restart := by simp [t, State.station]
  have hnone (i : StationNo) : (t.station i).unit = none ∧ (t.station i).state.holds = none := by
    rw [hst]; unfold Station.restart; dsimp only
    split <;> exact ⟨rfl, rfl⟩
  have hseats : seatsOf t = fun _ => none := funext fun i => by simp [seatsOf, seatOf, (hnone i).1]
  exact note_calm.settled ⟨⟨by rw [hseats]; exact h.1.1.restart, nofun⟩, fun i => by simp [Seated, hnone i]⟩

theorem handleStop_settled (h : Settled s) : Settled (handleStop s).1 := by
  unfold handleStop; split
  · rename_i hx
    exact (Calm.setChamber (by rw [hx]; rfl) (by rw [hx]; rfl)).settled h
  · split
    · exact h
    · exact (Calm.setChamber rfl rfl).settled h
  · exact h

theorem handleStart_settled (h : Settled s) : Settled (handleStart s).1 := by
  unfold handleStart; split
  · exact h
  · split
    · rename_i hx
      split
      · have hs : Settled (s.setChamber { s.chamber with startPending := true }) := (Calm.setChamber rfl rfl).settled h
        exact hs.of_placed (boundary_placed hs.1 (by rw [State.setChamber_chamber, hx]; rfl)) boundary_differs
      · exact h
    · exact h

theorem handleStage_settled {o : SettingsOperands} (h : Settled s) : Settled (handleStage o s).1 := by
  unfold handleStage; repeat' split
  · exact h
  · exact h
  · rename_i g _ _
    have hs : Settled (s.setChamber { s.chamber with staged := o.clamped g, stagingPending := true }) :=
      (Calm.setChamber rfl rfl).settled h
    exact hs.of_placed (waitingDecision_placed hs.1) waitingDecision_differs
  · exact h

theorem withLayout_settled {α : Type} {o : Option α} {g : α → State → State × Reply} (h : Settled s)
    (hg : ∀ a, Settled (g a s).1) : Settled (withLayout o g s).1 := by
  cases o with
  | none => exact h
  | some a => exact hg a

theorem onStation_settled {k : Nat} {g : StationNo → State → State × Reply} (h : Settled s)
    (hg : ∀ i, Settled (g i s).1) : Settled (onStation k g s).1 := by
  unfold onStation; split
  · exact h
  · exact hg _

/-- Every request's handling keeps the places. -/
theorem handler_settled {j : Instr} {g : State → State × Reply} (e : handlerOf j = some g) (h : Settled s) :
    Settled (g s).1 := by
  have d := handler_differs e s
  cases j <;> simp only [handlerOf, Option.some.injEq, reduceCtorEq] at e <;> subst e
  case admitUnit => exact withLayout_settled h fun _ => handleAdmit_settled h
  case withdrawUnit => exact withLayout_settled h fun _ => handleWithdraw_settled h
  case takeClosed => exact withLayout_settled h fun _ => h.of_placed ⟨h.1.1.takeClosed 8, h.1.2⟩ setTracker_differs
  case setClassEntry =>
    have set {n : Fin 32} {e : Option ClassEntry} : Calm s (s.setClass n e) :=
      ⟨fun _ => .refl _, ⟨id, fun _ => ⟨rfl, rfl⟩, by simp [State.setClass]⟩, ⟨rfl, rfl, rfl⟩, rfl, rfl⟩
    refine withLayout_settled h fun a => ?_
    unfold handleSetClass; repeat' split
    all_goals first
      | exact h
      | exact set.settled h
  case suspendStation => exact withLayout_settled h fun _ => onStation_settled h fun _ => handleSuspend_calm.settled h
  case resumeStation =>
    refine withLayout_settled h fun _ => onStation_settled h fun _ => ?_
    unfold handleResume; repeat' split
    all_goals first
      | exact h
      | exact note_calm.settled (removeCause_calm.settled h)
  case abortStation => exact withLayout_settled h fun _ => onStation_settled h fun _ => handleAbort_calm.settled h
  case lockStation => exact withLayout_settled h fun _ => onStation_settled h fun _ => handleLock_calm.settled h
  case unlockStation =>
    refine withLayout_settled h fun _ => onStation_settled h fun _ => ?_
    unfold handleUnlock; split
    · rename_i hx
      split
      · exact h
      · exact note_calm.settled (returnToService_settled h (by rw [hx]; rfl))
    · exact h
  case resetStation =>
    refine withLayout_settled h fun _ => onStation_settled h fun _ => ?_
    unfold handleReset; split
    · rename_i hx
      exact note_calm.settled (returnToService_settled h (by rw [hx]; rfl))
    · exact h
  case endSwap =>
    refine withLayout_settled h fun _ => ?_
    unfold handleEndSwap; dsimp only; repeat' split
    all_goals first
      | exact h
      | exact beginCylinder_settled h
  case stageChamberSettings => exact withLayout_settled h fun _ => handleStage_settled h
  case startChamber => exact withLayout_settled h fun _ => handleStart_settled h
  case stopChamber => exact withLayout_settled h fun _ => handleStop_settled h
  case setChamberLimits =>
    refine withLayout_settled h fun _ => ?_
    unfold handleSetChamberLimits; repeat' split
    · exact h
    · exact h
    · exact (Calm.setChamber rfl rfl).settled h
  case emergencyTrip =>
    refine withLayout_settled h fun _ => ?_
    unfold handleEmergencyTrip; repeat' split
    · exact addCauses_settled h
    · exact h
    · exact (Calm.of_differs joinCauses_differs).settled h
  case clearTrip =>
    refine withLayout_settled h fun _ => ?_
    unfold handleClearTrip; repeat' split
    all_goals first
      | exact h
      | exact clearTrip_settled h
  case goOnline =>
    refine withLayout_settled h fun _ => ?_
    have online : Settled (s.setLink { s.link with mode := .running }) := (Calm.of_differs setMode_differs).settled h
    unfold handleGoOnline; repeat' split
    all_goals first
      | exact h
      | exact note_calm.settled (arbiterPass_settled online)
  case lineRestart => exact withLayout_settled h fun _ => lineRestart_settled h
  all_goals exact (Calm.of_differs d (by simp [touched]) (by simp [touched]) (by simp [touched])).settled h

end requests

/-! ### The invariant -/

theorem settled_plantKept : PlantKept Settled where
  reads s t hb h := by
    have hchamber : t.chamber = s.chamber := hb .chamber (by decide)
    have htracker : t.tracker = s.tracker := hb .tracker (by decide)
    have hstations := station_of_same (hb .stations (by decide))
    have hseats : seatsOf t = seatsOf s := funext fun i => congrArg seatOf (hstations i)
    simpa only [Settled, Placed, hseats, hchamber, htracker, hstations] using h
  reset := (settled_iff _).mpr (by decide)
  elapse n h := (elapse_calm n).settled h
  handle := handler_settled
  stationScan _ _ := stationScan_settled
  receiverScan _ _ := receiverScan_settled
  chamberScan _ := chamberScan_settled
  protectionScan _ h := addCauses_settled ((Calm.of_differs measureHold_differs).settled h)
  writeScan _ h := (Calm.of_differs writeScan_differs).settled h
  pierceEnd _ hx h := (pierceEnd_calm hx).settled h
  release _ _ hx h := (releaseWith_calm (by rcases hx with hx | hx <;> rw [hx] <;> rfl)).settled h
  holdEnd _ hx h := (holdEnd_calm hx).settled h
  releaseEnd _ hx h := releaseEnd_settled h hx
  expire _ _ _ h := addCauses_settled h

/-- Settles O10: residues, tags, places and allocations, each by the invariant that every rule keeps. -/
theorem stepKeepsRecordsAndCells : Obligations.StepKeepsRecordsAndCells := by
  refine ⟨fun _ _ h e => residuesHeld_kept.step h e, fun _ _ h e => tagsHeld_kept.step h e, fun s t ht hp e => ?_,
    fun _ _ h e => Clockwork.allocationsHeld_kept.step h e⟩
  exact ((settled_iff t).mp (settled_plantKept.kept.step ((settled_iff s).mpr ⟨ht, hp⟩) e)).2

end Sys2Proof.Proofs.RecordPlaces

/-! # Requests taken in their turn, and refused (R186, R187)

The handling of a request turned into what the command does, once for every command; what a handling that refuses leaves; and the
agreement of commands with the requests that spell them. -/

namespace Sys2Proof.Proofs.Requests
open Sys2Proof Sys2Proof.Machine Sys2Proof.Proofs.Frames Sys2Proof.Proofs.Steps

set_option Elab.async false

/-! ### A request in its turn -/

section turn
variable {s t : State} {i : Instr} {g : State → State × Reply} {kind tag : Byte} {payload : List Byte} {reply : Reply}

/-- R186, R187: what is handled with the request taken is what goes out. -/
theorem exec_answered (e : handlerOf i = some g) (r : requestOf i = some (kind, tag, payload))
    (ht : s.TurnOf ⟨kind, tag, payload⟩) (hg : g s.takeFromQueue = (t, reply)) :
    exec i s = .next (t.sends (replyFrame kind tag reply.status reply.body)) := by
  rw [exec_turn e r ht, hg]

/-- R188: a reply that is sent from a line with none ready has gone out, or waits behind the frame being sent. -/
theorem answered_sends {f : TxFrame} (hs : t.link.sending = s.link.sending) (hr : t.link.reply = none) :
    Answered s (t.sends f) f := by
  unfold Answered State.sends
  rw [hs]
  cases hx : s.link.sending with
  | none => exact ⟨rfl, hr⟩
  | some x => exact ⟨hs.trans hx, rfl⟩

/-- R188: so has the reply to a request that was handled. -/
theorem answered_of_differs {k : List Block} {f : TxFrame} (d : Differs k s.takeFromQueue t) (hreply : s.link.reply = none)
    (hk : .line ∉ k := by decide) : Answered s (t.sends f) f :=
  answered_sends (d.sending hk) ((d.reply hk).trans hreply)

/-- What a handled request leaves, block by block: the link and the outputs with what was handled. -/
theorem sends_eq_with {f : TxFrame}
    (d : Differs [.tracker, .stations, .receivers, .chamber, .shift, .protection, .mode, .notices] s.takeFromQueue t) :
    t.sends f = { s with
      tracker := t.tracker, stations := t.stations, receiverF := t.receiverF, receiverH := t.receiverH, chamber := t.chamber
      shift := t.shift, protection := t.protection, link := (t.sends f).link, pins := t.driven } := by
  have hpending : t.pending = s.pending := d.pending
  have hnow : t.now = s.now := d.now
  have hchoices : t.choices = s.choices := d.choices
  have htoTake : t.toTake = s.toTake := d.toTake
  have htiming : t.timing = s.timing := d.timing
  have hgases : t.gases = s.gases := d.gases
  have hdead : t.deadBand = s.deadBand := d.deadBand
  have hmax : t.maximumBaseline = s.maximumBaseline := d.maximumBaseline
  have hscanner : t.scanner = s.scanner := d.scanner
  have hsample : t.sample = s.sample := d.sample
  rw [← hpending, ← hnow, ← hchoices, ← htoTake, ← htiming, ← hgases, ← hdead, ← hmax, ← hscanner, ← hsample]
  rfl

/-- R186: a request that is no event is taken by its handler, or is no named request. -/
theorem exec_request (r : requestOf i = some (kind, tag, payload)) (ht : ¬ s.TurnOf ⟨kind, tag, payload⟩) :
    exec i s = .next (s.receiveRequest ⟨kind, tag, payload⟩).settle := by
  cases hh : handlerOf i with
  | some h =>
    obtain ⟨a, b, c, h1, h2⟩ := exec_handler hh s
    rw [r] at h1; cases h1
    rw [h2, takeRequest_late _ _ _ ht]
  | none =>
    cases i <;> simp only [handlerOf, reduceCtorEq] at hh <;> simp only [requestOf, reduceCtorEq] at r
    case badKind a b c =>
      cases r
      have hturn : s.turnOf ⟨kind, tag, payload⟩ = false := by
        rw [Bool.eq_false_iff]; exact fun h => ht ((State.turnOf_iff s _).mp h)
      show execBadKind kind tag payload s = _
      simp [execBadKind, hturn]

end turn

section receive
variable {s : State} {r : Request}

theorem receiveRequest_of_room (h : s.link.requests.length < 4) :
    s.receiveRequest r = s.setLink { s.link with requests := s.link.requests ++ [r] } := if_pos h

theorem receiveRequest_of_full (h : 4 ≤ s.link.requests.length) : s.receiveRequest r = s.setFlag .frameError :=
  if_neg (Nat.not_lt.mpr h)

end receive

/-- Settles O12: a request out of its turn is received, and the outputs and the line settle. -/
theorem requestOutOfTurnWaits : Obligations.RequestOutOfTurnWaits := by
  intro i kind tag payload s r ht
  refine ⟨_, exec_request r ht, ?_⟩
  obtain hroom | hfull := Nat.lt_or_ge s.link.requests.length 4
  · rw [receiveRequest_of_room hroom]
    exact ⟨fun _ => ⟨by simp, by simp⟩, fun h => absurd hroom (by omega), by simp, by simp, by simp, rfl⟩
  · rw [receiveRequest_of_full hfull]
    exact ⟨fun h => absurd h (by omega), fun _ => ⟨by simp, by simp [State.setFlag, ReadFlags.set, ReadFlags.withFrameError]⟩,
      by simp, by simp, by simp, rfl⟩

/-! ### Commands and the requests that spell them (11.3) -/

theorem requestOf_commandOf (kind tag : Byte) (payload : List Byte) :
    requestOf (commandOf kind tag payload) = some (kind, tag, payload) := by
  unfold commandOf
  have hkind : kind = BitVec.ofNat 8 kind.toNat := by simp
  split
  rotate_right
  · rfl
  all_goals
    rename_i h
    rw [hkind, h]
    rfl

/-- R186: a kind that names no request spells BAD_KIND. -/
theorem commandOf_of_unnamed {kind : Byte} (h : namesRequest kind = false) (tag : Byte) (payload : List Byte) :
    commandOf kind tag payload = .badKind kind tag payload := by
  unfold namesRequest commandOf at h
  unfold commandOf
  split
  rotate_right
  · rfl
  all_goals
    rename_i hk
    rw [hk] at h
    cases h

theorem namesRequest_of_wf_badKind {kind tag : Byte} {payload : List Byte}
    (h : (Instr.badKind kind tag payload).wf = true) : namesRequest kind = false := by
  simp only [Instr.wf, Bool.and_eq_true, Bool.not_eq_true'] at h
  exact h.1

/-- Settles O15: the request a command spells, and back. -/
theorem requestsAndCommandsAgree : Obligations.RequestsAndCommandsAgree := by
  refine ⟨requestOf_commandOf, fun i kind tag payload hwf r => ?_⟩
  cases i <;> simp only [requestOf, Option.some.injEq, Prod.mk.injEq, reduceCtorEq] at r <;>
    (obtain ⟨rfl, rfl, rfl⟩ := r)
  case badKind => exact commandOf_of_unnamed (namesRequest_of_wf_badKind hwf) _ _
  all_goals rfl

/-- R186: a well-formed command whose kind names a request is handled by that request's owner. -/
theorem handlerOf_of_named {i : Instr} {kind tag : Byte} {payload : List Byte} (hwf : i.wf = true)
    (r : requestOf i = some (kind, tag, payload)) (hn : namesRequest kind = true) : ∃ g, handlerOf i = some g := by
  cases i <;> simp only [requestOf, Option.some.injEq, Prod.mk.injEq, reduceCtorEq] at r
  case badKind a b c =>
    rw [← r.1, namesRequest_of_wf_badKind hwf] at hn; cases hn
  all_goals exact ⟨_, rfl⟩

theorem namesRequest_of_length {kind : Byte} {n : Nat} (h : requestLength kind = some n) : namesRequest kind = true := by
  revert n kind; decide

/-! ### Requests of the wrong length -/

/-- R186: a payload of another length than its layout's is refused before the owner sees it. -/
theorem handler_wrongLength {i : Instr} {g : State → State × Reply} {kind tag : Byte} {payload : List Byte} {n : Nat}
    (e : handlerOf i = some g) (r : requestOf i = some (kind, tag, payload)) (hn : requestLength kind = some n)
    (hlen : payload.length ≠ n) (s : State) : g s = s.refuse .outOfRange := by
  cases i <;> simp only [handlerOf, Option.some.injEq, reduceCtorEq] at e <;>
    (subst e; obtain ⟨rfl, rfl, rfl⟩ : _ ∧ _ ∧ _ := by simpa only [requestOf, Option.some.injEq, Prod.mk.injEq] using r) <;>
    (obtain rfl : _ = n := Option.some.inj hn) <;>
    simp only [readAdmit, readUnitTag, readNothing, readSetClass, readStation, readTiming, readReadTrace, readReceiver,
      readReceiverAndNumber, readSettings, readChamberLimits, readChargeNumber, readSetGas, readArithmeticLimits,
      readProtectionLimits, readDivisor, readSlot, readBinding, readSignalLimits, readStream, readMaximum, readEnables,
      ofLength, if_neg hlen, withLayout]

/-- Settles O13. -/
theorem badRequestsAreAnswered : Obligations.BadRequestsAreAnswered := by
  refine ⟨fun i kind tag payload n s hwf r hn hlen ht => ?_, fun kind tag payload s hn ht => ?_, by decide⟩
  · obtain ⟨g, e⟩ := handlerOf_of_named hwf r (namesRequest_of_length hn)
    exact exec_answered e r ht (handler_wrongLength e r hn hlen _)
  · show execBadKind kind tag payload s = _
    have hturn : s.turnOf ⟨kind, tag, payload⟩ = true := (State.turnOf_iff s _).mpr ht
    simp only [execBadKind, hn, hturn, Bool.not_false, Bool.and_self, if_true]
    exact congrArg _ (State.answerWith_settle _ _ ht.1)

/-! ### Requests refused -/

/-- R187: a handling that refuses or ignores leaves the state. -/
def Refuses (s : State) (r : State × Reply) : Prop := r.2.status.refuses = true → r.1 = s

section refused
variable {s t : State}

theorem refuses_unchanged {reply : Reply} : Refuses s (s, reply) := fun _ => rfl
theorem refuses_refuse {st : Status} : Refuses s (s.refuse st) := fun _ => rfl
theorem refuses_accepted {reply : Reply} (h : reply.status.refuses = false) : Refuses s (t, reply) := fun e => by
  rw [h] at e; cases e

theorem refuses_withLayout {α : Type} {o : Option α} {g : α → State → State × Reply} (h : ∀ a, Refuses s (g a s)) :
    Refuses s (withLayout o g s) := by
  cases o with
  | none => exact refuses_refuse
  | some a => exact h a

theorem refuses_onStation {n : Nat} {g : StationNo → State → State × Reply} (h : ∀ i, Refuses s (g i s)) :
    Refuses s (onStation n g s) := by
  unfold onStation; split
  · exact refuses_refuse
  · exact h _

theorem handleSuspend_refuses {i : StationNo} : Refuses s (handleSuspend i s) := by
  unfold handleSuspend; dsimp only; repeat' split
  all_goals first
    | exact refuses_accepted rfl
    | exact refuses_refuse
theorem handleResume_refuses {i : StationNo} : Refuses s (handleResume i s) := by
  unfold handleResume; repeat' split
  all_goals first
    | exact refuses_accepted rfl
    | exact refuses_refuse
theorem handleAbort_refuses {i : StationNo} : Refuses s (handleAbort i s) := by
  unfold handleAbort; repeat' split
  all_goals first
    | exact refuses_accepted rfl
    | exact refuses_refuse
theorem handleLock_refuses {i : StationNo} : Refuses s (handleLock i s) := by
  unfold handleLock; repeat' split
  all_goals first
    | exact refuses_accepted rfl
    | exact refuses_refuse
theorem handleUnlock_refuses {i : StationNo} : Refuses s (handleUnlock i s) := by
  unfold handleUnlock; repeat' split
  all_goals first
    | exact refuses_accepted rfl
    | exact refuses_refuse
theorem handleReset_refuses {i : StationNo} : Refuses s (handleReset i s) := by
  unfold handleReset; repeat' split
  all_goals first
    | exact refuses_accepted rfl
    | exact refuses_refuse
theorem handleAdmit_refuses {o : AdmitOperands} : Refuses s (handleAdmit o s) := by
  unfold handleAdmit; repeat' split
  all_goals first
    | exact refuses_accepted rfl
    | exact refuses_refuse
theorem handleWithdraw_refuses {n : Nat} : Refuses s (handleWithdraw n s) := by
  unfold handleWithdraw; repeat' split
  all_goals first
    | exact refuses_accepted rfl
    | exact refuses_refuse
theorem handleSetClass_refuses {o : Nat × Option ClassOperands} : Refuses s (handleSetClass o s) := by
  unfold handleSetClass; repeat' split
  all_goals first
    | exact refuses_accepted rfl
    | exact refuses_refuse
theorem handleSetTiming_refuses {o : StationTiming} : Refuses s (handleSetTiming o s) := by
  unfold handleSetTiming; repeat' split
  all_goals first
    | exact refuses_accepted rfl
    | exact refuses_refuse
theorem handleReadTrace_refuses {o : Nat × Nat × Nat} : Refuses s (handleReadTrace o s) := by
  unfold handleReadTrace; dsimp only; repeat' split
  all_goals first
    | exact refuses_accepted rfl
    | exact refuses_refuse
theorem handleBeginSwap_refuses {f : Family} : Refuses s (handleBeginSwap f s) := by
  unfold handleBeginSwap; dsimp only; repeat' split
  all_goals first
    | exact refuses_accepted rfl
    | exact refuses_refuse
theorem handleEndSwap_refuses {o : Family × Nat} : Refuses s (handleEndSwap o s) := by
  unfold handleEndSwap; dsimp only; repeat' split
  all_goals first
    | exact refuses_accepted rfl
    | exact refuses_refuse
theorem handleSetFillLimit_refuses {o : Family × Nat} : Refuses s (handleSetFillLimit o s) := by
  unfold handleSetFillLimit; repeat' split
  all_goals first
    | exact refuses_accepted rfl
    | exact refuses_refuse
theorem handleStart_refuses : Refuses s (handleStart s) := by
  unfold handleStart; repeat' split
  all_goals first
    | exact refuses_accepted rfl
    | exact refuses_refuse
theorem handleStop_refuses : Refuses s (handleStop s) := by
  unfold handleStop; repeat' split
  all_goals first
    | exact refuses_accepted rfl
    | exact refuses_refuse
theorem handleSetChamberLimits_refuses {l : ChamberLimits} : Refuses s (handleSetChamberLimits l s) := by
  unfold handleSetChamberLimits; repeat' split
  all_goals first
    | exact refuses_accepted rfl
    | exact refuses_refuse
theorem handleReadCharge_refuses {n : Nat} : Refuses s (handleReadCharge n s) := by
  unfold handleReadCharge; repeat' split
  all_goals first
    | exact refuses_accepted rfl
    | exact refuses_refuse
theorem handleQueryUnit_refuses {n : Nat} : Refuses s (handleQueryUnit n s) := by
  unfold handleQueryUnit; repeat' split
  all_goals first
    | exact refuses_accepted rfl
    | exact refuses_refuse
theorem handleSetGas_refuses {o : Nat × Option GasOperands} : Refuses s (handleSetGas o s) := by
  unfold handleSetGas; repeat' split
  all_goals first
    | exact refuses_accepted rfl
    | exact refuses_refuse
theorem handleSetArithmetic_refuses {o : Nat × Nat} : Refuses s (handleSetArithmetic o s) := by
  unfold handleSetArithmetic; repeat' split
  all_goals first
    | exact refuses_accepted rfl
    | exact refuses_refuse
theorem handleSetProtection_refuses {l : ProtectionLimits} : Refuses s (handleSetProtection l s) := by
  unfold handleSetProtection; repeat' split
  all_goals first
    | exact refuses_accepted rfl
    | exact refuses_refuse
theorem handleEmergencyTrip_refuses : Refuses s (handleEmergencyTrip s) := by
  unfold handleEmergencyTrip; repeat' split
  all_goals first
    | exact refuses_accepted rfl
    | exact refuses_refuse
theorem handleClearTrip_refuses : Refuses s (handleClearTrip s) := by
  unfold handleClearTrip; repeat' split
  all_goals first
    | exact refuses_accepted rfl
    | exact refuses_refuse
theorem handleSetSlot_refuses {o : SlotOperands} : Refuses s (handleSetSlot o s) := by
  unfold handleSetSlot; repeat' split
  all_goals first
    | exact refuses_accepted rfl
    | exact refuses_refuse
theorem handleScannerReset_refuses : Refuses s (handleScannerReset s) := by
  unfold handleScannerReset; repeat' split
  all_goals first
    | exact refuses_accepted rfl
    | exact refuses_refuse
theorem handleBind_refuses {o : RoleNo × Option Nat} : Refuses s (handleBind o s) := by
  unfold handleBind; dsimp only; repeat' split
  all_goals first
    | exact refuses_accepted rfl
    | exact refuses_refuse
theorem handleSetSignalLimits_refuses {o : Nat × Nat} : Refuses s (handleSetSignalLimits o s) := by
  unfold handleSetSignalLimits; repeat' split
  all_goals first
    | exact refuses_accepted rfl
    | exact refuses_refuse
theorem handleStream_refuses {o : StreamOperands} : Refuses s (handleStream o s) := by
  unfold handleStream; repeat' split
  all_goals first
    | exact refuses_accepted rfl
    | exact refuses_refuse
theorem handleDrain_refuses {n : Nat} : Refuses s (handleDrain n s) := by
  unfold handleDrain; repeat' split
  all_goals first
    | exact refuses_accepted rfl
    | exact refuses_refuse
theorem handleGoOnline_refuses : Refuses s (handleGoOnline s) := by
  unfold handleGoOnline; repeat' split
  all_goals first
    | exact refuses_accepted rfl
    | exact refuses_unchanged
theorem handleGoOffline_refuses : Refuses s (handleGoOffline s) := by
  unfold handleGoOffline; repeat' split
  all_goals first
    | exact refuses_accepted rfl
    | exact refuses_refuse
theorem handleStage_refuses {o : SettingsOperands} : Refuses s (handleStage o s) := by
  unfold handleStage; repeat' split
  · exact refuses_refuse
  · exact refuses_refuse
  · exact refuses_accepted (by dsimp only; split <;> rfl)
  · exact refuses_refuse
theorem handleSetDivisor_refuses {n : Nat} : Refuses s (handleSetDivisor n s) :=
  refuses_accepted (by dsimp only; split <;> rfl)

/-- R187: no request's handling refuses and changes something. -/
theorem handler_refuses {i : Instr} {g : State → State × Reply} (e : handlerOf i = some g) (s : State) :
    Refuses s (g s) := by
  cases i <;> simp only [handlerOf, Option.some.injEq, reduceCtorEq] at e <;> subst e <;>
    refine refuses_withLayout fun a => ?_
  case suspendStation => exact refuses_onStation fun _ => handleSuspend_refuses
  case resumeStation => exact refuses_onStation fun _ => handleResume_refuses
  case abortStation => exact refuses_onStation fun _ => handleAbort_refuses
  case lockStation => exact refuses_onStation fun _ => handleLock_refuses
  case unlockStation => exact refuses_onStation fun _ => handleUnlock_refuses
  case resetStation => exact refuses_onStation fun _ => handleReset_refuses
  case admitUnit => exact handleAdmit_refuses
  case withdrawUnit => exact handleWithdraw_refuses
  case queryUnit => exact handleQueryUnit_refuses
  case setClassEntry => exact handleSetClass_refuses
  case setStationTiming => exact handleSetTiming_refuses
  case readTrace => exact handleReadTrace_refuses
  case beginSwap => exact handleBeginSwap_refuses
  case endSwap => exact handleEndSwap_refuses
  case setFillLimit => exact handleSetFillLimit_refuses
  case stageChamberSettings => exact handleStage_refuses
  case startChamber => exact handleStart_refuses
  case stopChamber => exact handleStop_refuses
  case setChamberLimits => exact handleSetChamberLimits_refuses
  case readCharge => exact handleReadCharge_refuses
  case setGasEntry => exact handleSetGas_refuses
  case setArithmeticLimits => exact handleSetArithmetic_refuses
  case setProtectionLimits => exact handleSetProtection_refuses
  case emergencyTrip => exact handleEmergencyTrip_refuses
  case clearTrip => exact handleClearTrip_refuses
  case setScanDivisor => exact handleSetDivisor_refuses
  case setScanSlot => exact handleSetSlot_refuses
  case scannerReset => exact handleScannerReset_refuses
  case bindSignal => exact handleBind_refuses
  case setSignalLimits => exact handleSetSignalLimits_refuses
  case streamControl => exact handleStream_refuses
  case drainSamples => exact handleDrain_refuses
  case goOnline => exact handleGoOnline_refuses
  case goOffline => exact handleGoOffline_refuses
  all_goals exact refuses_accepted rfl

end refused

/-- Settles O14: the handling's reply goes out, and a handling that refuses leaves the state. -/
theorem refusalChangesNothing : Obligations.RefusalChangesNothing := by
  intro i kind tag payload s hwf r hn ht
  obtain ⟨g, e⟩ := handlerOf_of_named hwf r hn
  have d := handler_differs e s.takeFromQueue
  have hline : Block.line ∉ touched i := Soundness.line_not_touched i
  exact ⟨_, _, _, exec_answered e r ht rfl, d.sending hline, (d.reply hline).trans ht.1, d.requests hline,
    handler_refuses e _⟩

end Sys2Proof.Proofs.Requests

/-! # Commands, the state after power-on, and the frames that come and go (R184, R185, R188, R189, R194) -/

namespace Sys2Proof.Proofs.Receiving
open Sys2Proof Sys2Proof.Machine Sys2Proof.Proofs.Frames Sys2Proof.Proofs.Steps Sys2Proof.Proofs.Requests

set_option Elab.async false

/-! ### The queue of commands -/

/-- Settles O1. -/
theorem stepTakesTheFrontCommand : Obligations.StepTakesTheFrontCommand := by
  intro c rest s h
  simp only [step, h]

/-- The model's own fields, the queue of commands and the count of choices, stay. -/
def Queued (s t : State) : Prop := t.pending = s.pending ∧ t.choices = s.choices

section queued
variable {s t u : State}

theorem Queued.refl (s : State) : Queued s s := ⟨rfl, rfl⟩

theorem Queued.after (h' : Queued t u) (h : Queued s t) : Queued s u := ⟨h'.1.trans h.1, h'.2.trans h.2⟩

theorem Queued.of_differs {k : List Block} (d : Differs k s t) (h : .line ∉ k := by decide) : Queued s t :=
  ⟨d.pending h, d.choices h⟩

theorem Queued.atDate {n : Nat} {act : State → State} (h : ∀ t, Queued t (act t)) : Queued s (s.atDate n act) := by
  unfold State.atDate; split
  · exact (h _).after ⟨rfl, rfl⟩
  · exact .refl s

theorem Queued.taken {c : Consumer} {act : Scan → State → State} (h : ∀ x t, Queued t (act x t)) :
    Queued s (taken c act s) := by
  unfold Steps.taken; split
  · exact .refl s
  · exact (h _ _).after ⟨rfl, rfl⟩

theorem Queued.timedEnd {i : StationNo} {x : StationState} {act : State → State} (h : ∀ t, Queued t (act t)) :
    Queued s (s.timedEnd i x act) := by
  unfold State.timedEnd; split
  · exact .atDate fun t => .after (.of_differs noteStations_differs) (h t)
  · exact .refl s

theorem waitExpiry_queued {p : Phase} {n : Nat} {c : TripCauses} : Queued s (s.waitExpiry p n c) := by
  unfold State.waitExpiry; repeat' split
  · exact .atDate fun t => .of_differs addCauses_differs
  · exact .refl s
  · exact .refl s

theorem receiveRequest_queued {r : Request} : Queued s (s.receiveRequest r) := by
  unfold State.receiveRequest; split <;> exact ⟨rfl, rfl⟩

theorem checkFrame_queued {kind tag : Byte} {payload : List Byte} {crc : BitVec 16} :
    Queued s (s.checkFrame kind tag payload crc) := by
  unfold State.checkFrame; repeat' split
  · exact ⟨rfl, rfl⟩
  · exact receiveRequest_queued.after ⟨rfl, rfl⟩
  · exact ⟨rfl, rfl⟩

theorem byteWaiting_queued {b : Byte} : Queued s (s.byteWaiting b) := by
  unfold State.byteWaiting; split <;> exact ⟨rfl, rfl⟩

theorem receiveByte_queued {b : Byte} : Queued s (s.receiveByte b) := by
  unfold State.receiveByte; split
  · exact byteWaiting_queued
  · split
    · exact byteWaiting_queued.after ⟨rfl, rfl⟩
    · unfold State.byteInside; repeat' split
      · exact ⟨rfl, rfl⟩
      · exact ⟨rfl, rfl⟩
      · exact ⟨rfl, rfl⟩
      · exact checkFrame_queued

theorem continueScan_queued {e n : Nat} : Queued s (s.continueScan e n) := by
  unfold State.continueScan; split <;> exact ⟨rfl, rfl⟩

theorem readMissed_queued {p : ScanInProgress} : Queued s (s.readMissed p) :=
  continueScan_queued.after (.of_differs Soundness.countMiss_differs)

theorem readGood_queued {p : ScanInProgress} {v : List (BitVec 32)} : Queued s (s.readGood p v) :=
  continueScan_queued.after (.of_differs (setScanner_differs.seq Soundness.countGood_differs))

/-- No event touches the queue of commands or the count of choices. -/
theorem event_queued {i : Instr} {act : State → State} (e : eventOf i = some act) : Queued s (act s) := by
  cases i <;> simp only [eventOf, Option.some.injEq, reduceCtorEq] at e <;> subst e
  case frameReceived => exact checkFrame_queued
  case frameGapTimeout =>
    unfold State.gapTimeout; split
    · exact .refl s
    · exact .atDate fun t => ⟨rfl, rfl⟩
  case transmitComplete =>
    unfold State.endSending; split
    · exact .refl s
    · exact .atDate fun t => ⟨rfl, rfl⟩
  case scanTick =>
    refine .atDate fun t => ?_
    unfold State.tickScan; dsimp only; split
    · exact ⟨rfl, rfl⟩
    · exact continueScan_queued.after ⟨rfl, rfl⟩
  case probeReply =>
    unfold State.takeProbeReply; repeat' split
    · exact .refl s
    · exact readGood_queued
    · exact readMissed_queued
  case probeTimeout =>
    unfold State.passProbeTimeout; split
    · exact .refl s
    · exact .atDate fun t => readMissed_queued
  case stationScan => exact .taken fun _ _ => .of_differs stationScan_differs
  case pierceTimeEnd => exact .timedEnd fun _ => .of_differs pierceEnd_differs
  case evacuationLimitExpiry => exact .timedEnd fun _ => .of_differs releaseWith_differs
  case holdTimeEnd => exact .timedEnd fun _ => .of_differs holdEnd_differs
  case releaseTimeEnd => exact .timedEnd fun _ => .of_differs releaseEnd_differs
  case suspendLimitExpiry => exact .timedEnd fun _ => .of_differs releaseWith_differs
  case receiverScan => exact .taken fun _ _ => .of_differs receiverScan_differs
  case chamberScan => exact .taken fun _ _ => .of_differs chamberScan_differs
  case inertTimeoutExpiry => exact waitExpiry_queued
  case ventTimeoutExpiry => exact waitExpiry_queued
  case protectionScan => exact .taken fun _ _ => .of_differs protectionScan_differs
  case sampleScanWrite => exact .taken fun _ _ => .of_differs writeScan_differs
  case frameByteReceived => exact receiveByte_queued

/-- Settles O3: a command resets the part, receives a request, answers one, or is an event. -/
theorem everyCommandAnswersNext : Obligations.EveryCommandAnswersNext := by
  intro i s
  obtain hi | ⟨r, hi⟩ | ⟨f, hi⟩ | ⟨g, f, hg, hi⟩ | ⟨act, ha, hi⟩ := exec_cases i s
  · exact ⟨_, hi, rfl, rfl⟩
  · exact ⟨_, hi, receiveRequest_queued⟩
  · exact ⟨_, hi, rfl, rfl⟩
  · have h : Queued s.takeFromQueue (g s.takeFromQueue).1 :=
      .of_differs (handler_differs hg _) (Soundness.line_not_touched i)
    exact ⟨_, hi, h⟩
  · exact ⟨_, hi, event_queued ha⟩

end queued

/-! ### The state after power-on -/

/-- Settles O4: each invariant, evaluated. -/
theorem resetMeetsEveryInvariant : Obligations.ResetMeetsEveryInvariant :=
  ⟨by decide, by decide, by decide, by decide, by decide, by decide, by decide, by decide, by decide, by decide, by decide⟩

section reset

theorem reset_enables : ∀ n : Fin 13, State.reset.link.enables.getLsbD n = true := by decide
theorem reset_classes : ∀ n : Fin 32, State.reset.tracker.classes[n] = none := by decide
theorem reset_slots : ∀ n : SlotNo, State.reset.scanner.slots[n] = ⟨false, 1, 0, 1, 0, .fresh, none⟩ := by decide
theorem reset_working : ∀ n : CellNo, State.reset.scanner.working[n] = ⟨0, false⟩ := by decide
theorem reset_roles : ∀ r : RoleNo, State.reset.scanner.roles[r] = .afresh none := by decide
theorem reset_station (i : StationNo) : State.reset.station i = Station.reset := by
  revert i; decide
theorem reset_outputs : ∀ i : StationNo, State.reset.pins.needle[i] = false ∧ State.reset.pins.evac[i] = false := by decide

end reset

/-- Settles O5: each field, evaluated. -/
theorem powerOnSetsInitialValues : Obligations.PowerOnSetsInitialValues := by
  intro s
  refine ⟨_, rfl, rfl, rfl, ⟨rfl, rfl, rfl, rfl, reset_enables, rfl, rfl, rfl⟩, ⟨rfl, rfl, rfl, rfl, rfl, reset_classes⟩,
    fun i => ?_, rfl, fun f => by cases f <;> exact ⟨rfl, rfl, rfl, rfl, rfl⟩,
    ⟨rfl, rfl, rfl, rfl, rfl, rfl, rfl, rfl, rfl, rfl, rfl, rfl⟩, ⟨rfl, rfl, rfl⟩, rfl, ⟨rfl, rfl, rfl⟩, ⟨rfl, rfl, rfl⟩,
    ⟨rfl, rfl, rfl, rfl, reset_slots, rfl, rfl, rfl, rfl, rfl, reset_working, reset_roles, rfl, rfl, rfl⟩,
    ⟨rfl, rfl, rfl, rfl, rfl⟩⟩
  have hi : ({ State.reset with pending := s.pending, choices := s.choices } : State).station i = Station.reset :=
    reset_station i
  rw [hi]
  exact ⟨rfl, rfl, rfl, rfl, rfl, rfl, rfl, rfl, rfl, rfl, rfl, rfl, rfl, rfl, rfl, rfl, rfl, reset_outputs i⟩

/-! ### What changes the link alone -/

/-- From `s` to `t` the frame receiver, the requests and the flags may change, and nothing else of the part. -/
structure OnLink (s t : State) : Prop where
  eq : t = s.setLink t.link
  mode : t.link.mode = s.link.mode
  enables : t.link.enables = s.link.enables

section onLink
variable {s t u : State} {b kind tag : Byte} {payload received : List Byte} {crc : BitVec 16} {gap : Nat}

theorem OnLink.after (h' : OnLink t u) (h : OnLink s t) : OnLink s u :=
  ⟨h'.eq.trans (by rw [h.eq]; rfl), h'.mode.trans h.mode, h'.enables.trans h.enables⟩

theorem OnLink.setRx {x : FrameReceiver} : OnLink s (s.setRx x) := ⟨rfl, rfl, rfl⟩

theorem OnLink.discardFrame : OnLink s s.discardFrame := ⟨rfl, rfl, rfl⟩

theorem OnLink.receiveRequest {r : Request} : OnLink s (s.receiveRequest r) := by
  unfold State.receiveRequest; split <;> exact ⟨rfl, rfl, rfl⟩

theorem OnLink.checkFrame : OnLink s (s.checkFrame kind tag payload crc) := by
  unfold State.checkFrame; repeat' split
  · exact .discardFrame
  · exact .after .receiveRequest .setRx
  · exact .discardFrame

theorem OnLink.byteWaiting : OnLink s (s.byteWaiting b) := by
  unfold State.byteWaiting; split
  · exact .setRx
  · exact .discardFrame

theorem OnLink.byteInside : OnLink s (s.byteInside received) := by
  unfold State.byteInside; repeat' split
  · exact .setRx
  · exact .discardFrame
  · exact .setRx
  · exact .checkFrame

theorem OnLink.receiveByte : OnLink s (s.receiveByte b) := by
  unfold State.receiveByte; repeat' split
  · exact .byteWaiting
  · exact .after .byteWaiting .discardFrame
  · exact .byteInside

/-- The end of the command settles the line and the outputs, which follow states that have not changed. -/
theorem OnLink.settle_eq (h : OnLink s t) : t.settle = { s with link := t.settle.link, pins := s.driven } := by
  rw [h.eq]; rfl

theorem discardFrame_rx : s.discardFrame.link.rx = .waiting := rfl
theorem discardFrame_flags : s.discardFrame.link.flags = s.link.flags.withFrameError := rfl

/-- R185: a frame whose CRC is right is a received request. -/
theorem checkFrame_right (h : payload.length ≤ 1024) :
    s.checkFrame kind tag payload (crc16 (covered kind tag payload)) = (s.setRx .waiting).receiveRequest ⟨kind, tag, payload⟩ := by
  simp [State.checkFrame, Config.payloadMost, Nat.not_lt.mpr h]

theorem checkFrame_wrong (h : crc ≠ crc16 (covered kind tag payload)) :
    s.checkFrame kind tag payload crc = s.discardFrame := by
  simp [State.checkFrame, h]

end onLink

/-- Settles O16: a frame is discarded, or it is a received request. -/
theorem frameReceivedQueuesTheRequest : Obligations.FrameReceivedQueuesTheRequest := by
  intro kind tag payload crc s hlen
  have hon : OnLink s (s.checkFrame kind tag payload crc) := .checkFrame
  refine ⟨_, rfl, ?_⟩
  simp only [State.settle_link, Link.arbitrate_rx, Link.arbitrate_requests, Link.arbitrate_flags, Link.arbitrate_mode,
    Link.arbitrate_enables]
  refine and_assoc.mp (and_assoc.mp ⟨?_, hon.mode, hon.enables, hon.settle_eq⟩)
  by_cases hcrc : crc = crc16 (covered kind tag payload)
  · subst hcrc
    rw [checkFrame_right hlen]
    obtain hroom | hfull := Nat.lt_or_ge s.link.requests.length 4
    · rw [receiveRequest_of_room (s := s.setRx .waiting) hroom]
      exact ⟨⟨rfl, fun _ => ⟨rfl, rfl⟩⟩, fun h => absurd h (by simp; omega)⟩
    · rw [receiveRequest_of_full (s := s.setRx .waiting) hfull]
      exact ⟨⟨rfl, fun h => absurd h.2 (by omega)⟩, fun _ => ⟨rfl, rfl⟩⟩
  · rw [checkFrame_wrong hcrc]
    exact ⟨⟨rfl, fun h => absurd h.1 hcrc⟩, fun _ => ⟨rfl, rfl⟩⟩

/-! ### Bytes, and the gap -/

section bytes
variable {s : State} {b kind tag : Byte} {payload received rest : List Byte} {crc : BitVec 16} {gap : Nat}

theorem byteWaiting_start : s.byteWaiting 0xA5#8 = s.setRx (.inside [] 0) := if_pos rfl

theorem byteWaiting_other (h : b ≠ 0xA5#8) : s.byteWaiting b = s.discardFrame := if_neg h

theorem receiveByte_waiting (h : s.link.rx = .waiting) : s.receiveByte b = s.byteWaiting b := by
  unfold State.receiveByte; rw [h]

theorem receiveByte_late (h : s.link.rx = .inside received gap) (hgap : 50 < gap) :
    s.receiveByte b = s.discardFrame.byteWaiting b := by
  unfold State.receiveByte; rw [h]
  exact if_pos hgap

theorem receiveByte_inside (h : s.link.rx = .inside received gap) (hgap : gap ≤ 50) :
    s.receiveByte b = s.byteInside (received ++ [b]) := by
  unfold State.receiveByte; rw [h]
  exact if_neg (Nat.not_lt.mpr hgap)

theorem byteInside_first (h : received.length < 2) : s.byteInside received = s.setRx (.inside received 0) := if_pos h

theorem byteInside_tooLong (h : 2 ≤ received.length) (hlen : 1024 < announced received) :
    s.byteInside received = s.discardFrame := by
  simp [State.byteInside, Config.payloadMost, Nat.not_lt.mpr h, hlen]

theorem byteInside_short (h : 2 ≤ received.length) (hlen : announced received ≤ 1024)
    (hshort : received.length < announced received + 6) : s.byteInside received = s.setRx (.inside received 0) := by
  simp [State.byteInside, Config.payloadMost, Nat.not_lt.mpr h, Nat.not_lt.mpr hlen, hshort]

theorem byteInside_whole (h : 2 ≤ received.length) (hlen : announced received ≤ 1024)
    (hwhole : announced received + 6 ≤ received.length) :
    s.byteInside received
      = s.checkFrame (received.getD 2 0x00#8) (received.getD 3 0x00#8) ((received.drop 4).take (announced received))
          (BitVec.ofNat 16 (leValue (received.drop (announced received + 4)))) := by
  simp [State.byteInside, Config.payloadMost, Nat.not_lt.mpr h, Nat.not_lt.mpr hlen, Nat.not_lt.mpr hwhole]

/-- The frame receiver after a byte, when the line and the outputs have settled. -/
theorem settled_receiver (t : State) : t.settle.link.rx = t.link.rx ∧ t.settle.link.flags = t.link.flags :=
  ⟨by simp, by simp⟩

theorem receiveByte_flags_short (h : s.link.rx = .inside received gap) (hgap : gap ≤ 50)
    (hshort : (received ++ [b]).length < 2 ∨ 2 ≤ (received ++ [b]).length ∧ announced (received ++ [b]) ≤ 1024
      ∧ (received ++ [b]).length < announced (received ++ [b]) + 6) :
    s.receiveByte b = s.setRx (.inside (received ++ [b]) 0) := by
  rw [receiveByte_inside h hgap]
  obtain hfirst | ⟨h2, hlen, hshort⟩ := hshort
  · exact byteInside_first hfirst
  · exact byteInside_short h2 hlen hshort

/-- Settles O18: each kind of byte, and the gap. -/
theorem frameBytesAreExamined : Obligations.FrameBytesAreExamined := by
  refine ⟨fun b s => ⟨_, rfl, fun hrx hb => ?_, fun hrx hb => ?_, fun received gap hrx hgap => ?_,
    fun received gap hrx hgap => ⟨fun hlen => ?_, fun hlen hlong => ?_, fun hlen hfit hshort => ?_⟩, ?_, ?_, ?_⟩,
    fun received gap s hrx hpass => ?_⟩
  · subst hb
    rw [receiveByte_waiting hrx, byteWaiting_start]
    exact settled_receiver _
  · rw [receiveByte_waiting hrx, byteWaiting_other hb]
    exact settled_receiver _
  · rw [receiveByte_late hrx hgap]
    by_cases hb : b = 0xA5#8
    · subst hb
      rw [byteWaiting_start]
      exact settled_receiver _
    · rw [byteWaiting_other hb, if_neg hb]
      exact settled_receiver _
  · rw [receiveByte_flags_short hrx hgap (.inl (by simp [hlen]))]
    rw [List.length_eq_zero_iff.mp hlen]
    exact settled_receiver _
  · have hann : announced (received ++ [b]) = leValue (received ++ [b]) := by
      rw [announced, List.take_of_length_le (by simp [hlen])]
    rw [receiveByte_inside hrx hgap, byteInside_tooLong (by simp [hlen]) (by rw [hann]; exact hlong)]
    exact settled_receiver _
  · rw [receiveByte_flags_short hrx hgap (.inr ⟨by simp; omega, hfit, by simpa [announced] using hshort⟩)]
    exact settled_receiver _
  · simpa using (OnLink.receiveByte (s := s) (b := b)).mode
  · simpa using (OnLink.receiveByte (s := s) (b := b)).enables
  · exact (OnLink.receiveByte (s := s) (b := b)).settle_eq
  · have hact : s.gapTimeout = (s.elapse (51 - gap)).discardFrame := by
      unfold State.gapTimeout State.atDate; rw [hrx]
      exact if_pos hpass
    refine ⟨_, rfl, ?_⟩
    rw [hact]
    exact ⟨by simp [discardFrame_rx], by simp [discardFrame_flags, State.elapse, Link.elapse], rfl,
      by simp [State.discardFrame, State.setRx, State.setFlag, State.elapse, Link.elapse],
      by simp [State.discardFrame, State.setRx, State.setFlag, State.elapse, Link.elapse],
      by simp [State.discardFrame, State.setRx, State.setFlag, State.elapse, Link.elapse], rfl, rfl, rfl, rfl, rfl, rfl, rfl⟩

/-! ### A frame, byte by byte -/

/-- R188: settling a line that has settled, with other received requests and flags, is settling it once. -/
theorem settle_again {x : FrameReceiver} {q : List Request} {fl : ReadFlags} :
    (s.settle.setLink { s.settle.link with rx := x, requests := q, flags := fl }).settle
      = (s.setLink { s.link with rx := x, requests := q, flags := fl }).settle := by
  have h : ({ s.link.arbitrate with rx := x, requests := q, flags := fl } : Link).arbitrate
      = ({ s.link with rx := x, requests := q, flags := fl } : Link).arbitrate := by
    obtain ⟨y, hs, ha⟩ | ⟨r, hs, hr, ha⟩ | ⟨n, l, hs, hr, hn, ha⟩ | ⟨hs, hr, hn, ha⟩ := s.link.arbitrate_cases <;>
      simp [Link.arbitrate, *]
  exact congrArg (fun l => { s with pins := s.driven, link := l }) h

theorem setRx_settle_again {x y : FrameReceiver} : ((s.setRx x).settle.setRx y).settle = (s.setRx y).settle := by
  have h := settle_again (s := s.setRx x) (x := y) (q := s.link.requests) (fl := s.link.flags)
  have e : (s.setRx x).settle.setRx y
      = (s.setRx x).settle.setLink
          { (s.setRx x).settle.link with rx := y, requests := s.link.requests, flags := s.link.flags } := by
    have hq : (s.setRx x).settle.link.requests = s.link.requests := by simp [State.setRx]
    have hf : (s.setRx x).settle.link.flags = s.link.flags := by simp [State.setRx]
    rw [← hq, ← hf]; rfl
  rw [e, h]; rfl

/-- R185: the check of a frame reads and changes nothing that the line's settling touches. -/
theorem checkFrame_settle_again {x : FrameReceiver} :
    ((s.setRx x).settle.checkFrame kind tag payload crc).settle = (s.checkFrame kind tag payload crc).settle := by
  have hq : (s.setRx x).settle.link.requests = s.link.requests := by simp [State.setRx]
  have hf : (s.setRx x).settle.link.flags = s.link.flags := by simp [State.setRx]
  have again {q : List Request} {fl : ReadFlags} :
      ((s.setRx x).settle.setLink { (s.setRx x).settle.link with rx := .waiting, requests := q, flags := fl }).settle
        = (s.setLink { s.link with rx := .waiting, requests := q, flags := fl }).settle :=
    (settle_again (s := s.setRx x)).trans rfl
  have hdiscard : (s.setRx x).settle.discardFrame.settle = s.discardFrame.settle := by
    have h := again (q := s.link.requests) (fl := s.link.flags.set .frameError)
    rw [← hq, ← hf] at h
    rw [show (s.setRx x).settle.discardFrame = _ from rfl]
    refine Eq.trans ?_ (h.trans ?_)
    · rfl
    · rw [hq, hf]; rfl
  unfold State.checkFrame
  split
  · exact hdiscard
  · split
    · obtain hroom | hfull := Nat.lt_or_ge s.link.requests.length 4
      · rw [receiveRequest_of_room (s := s.setRx .waiting) hroom,
          receiveRequest_of_room (s := (s.setRx x).settle.setRx .waiting) (by rw [← hq] at hroom; exact hroom)]
        have h := again (q := s.link.requests ++ [⟨kind, tag, payload⟩]) (fl := s.link.flags)
        rw [← hq, ← hf] at h
        exact h.trans (by rw [hq, hf]; rfl)
      · rw [receiveRequest_of_full (s := s.setRx .waiting) hfull,
          receiveRequest_of_full (s := (s.setRx x).settle.setRx .waiting) (by rw [← hq] at hfull; exact hfull)]
        exact hdiscard
    · exact hdiscard

/-- R184: the bytes of a frame after its start byte. -/
def body (kind tag : Byte) (payload : List Byte) (crc : BitVec 16) : List Byte :=
  covered kind tag payload ++ leBytes 2 crc.toNat

theorem body_length : (body kind tag payload crc).length = payload.length + 6 := by
  simp [body, covered]; omega

theorem announced_body (h : payload.length ≤ 1024) {tail : List Byte}
    (hp : received ++ tail = body kind tag payload crc) (h2 : 2 ≤ received.length) : announced received = payload.length := by
  have htake : received.take 2 = leBytes 2 payload.length := by
    have := congrArg (List.take 2) hp
    rw [List.take_append_of_le_length h2] at this
    rw [this]; rfl
  rw [announced, htake, leValue_leBytes]
  exact Nat.mod_eq_of_lt (by omega)

/-- R184, R185: the last byte of a frame has it checked. -/
theorem byteInside_body (h : payload.length ≤ 1024) :
    s.byteInside (body kind tag payload crc) = s.checkFrame kind tag payload crc := by
  have h2 : 2 ≤ (body kind tag payload crc).length := by rw [body_length]; omega
  have hann : announced (body kind tag payload crc) = payload.length :=
    announced_body (tail := []) (kind := kind) (tag := tag) (crc := crc) h (by simp) h2
  rw [byteInside_whole h2 (by rw [hann]; exact h) (by rw [hann]; exact Nat.le_of_eq body_length.symm), hann]
  have hpayload : ((body kind tag payload crc).drop 4).take payload.length = payload := by
    show (payload ++ leBytes 2 crc.toNat).take payload.length = payload
    simp
  have hcrc : (body kind tag payload crc).drop (payload.length + 4) = leBytes 2 crc.toNat := by
    have : body kind tag payload crc = covered kind tag payload ++ leBytes 2 crc.toNat := rfl
    have hlen : (covered kind tag payload).length = payload.length + 4 := by simp [covered]; omega
    rw [this, ← hlen, List.drop_left]
  rw [hpayload, hcrc, leValue_leBytes]
  have : BitVec.ofNat 16 (crc.toNat % 256 ^ 2) = crc := by
    rw [show (256 : Nat) ^ 2 = 2 ^ 16 from rfl, Nat.mod_eq_of_lt crc.isLt]; simp
  rw [this]
  rfl

theorem bytesIn_cons {b : Byte} {rest : List Byte} : bytesIn (b :: rest) s = bytesIn rest (s.receiveByte b).settle := rfl

/-- R184: inside a frame its bytes join it one by one, until the last has it checked. -/
theorem bytesIn_body (h : payload.length ≤ 1024) (hp : received ++ rest = body kind tag payload crc) (hrest : rest ≠ []) :
    bytesIn rest (s.setRx (.inside received 0)).settle = .next (s.checkFrame kind tag payload crc).settle := by
  induction rest generalizing received with
  | nil => exact absurd rfl hrest
  | cons b rest ih =>
    have hrx : (s.setRx (.inside received 0)).settle.link.rx = .inside received 0 := by simp [State.setRx]
    have hp' : (received ++ [b]) ++ rest = body kind tag payload crc := by simpa using hp
    rw [bytesIn_cons]
    cases rest with
    | nil =>
      rw [receiveByte_inside hrx (Nat.zero_le _), show received ++ [b] = _ from by simpa using hp, byteInside_body h,
        checkFrame_settle_again]
      rfl
    | cons b' rest =>
      have hlen := congrArg List.length hp'
      rw [body_length, List.length_append, List.length_cons] at hlen
      have hshort : (received ++ [b]).length < 2 ∨ 2 ≤ (received ++ [b]).length ∧ announced (received ++ [b]) ≤ 1024
          ∧ (received ++ [b]).length < announced (received ++ [b]) + 6 := by
        obtain h1 | h2 := Nat.lt_or_ge (received ++ [b]).length 2
        · exact .inl h1
        · rw [announced_body h hp' h2]
          exact .inr ⟨h2, h, by omega⟩
      rw [receiveByte_flags_short hrx (Nat.zero_le _) hshort, setRx_settle_again]
      exact ih hp' (by simp)

/-- Settles O17: the start byte, and then the bytes inside the frame. -/
theorem bytesMakeTheFrame : Obligations.BytesMakeTheFrame := by
  intro kind tag payload crc s hlen hrx
  show bytesIn (0xA5#8 :: body kind tag payload crc) s = .next (s.checkFrame kind tag payload crc).settle
  rw [bytesIn_cons, receiveByte_waiting hrx, byteWaiting_start]
  exact bytesIn_body hlen (received := []) rfl (List.ne_nil_of_length_pos (by rw [body_length]; omega))

end bytes

/-! ### Notices and the transmit line -/

section line
variable {s : State}

theorem noticeLost_set (fl : ReadFlags) : fl.set .noticeLost = { fl with noticeLost := true } := rfl

/-- R188: the line that a frame has left takes the next one. -/
theorem arbitrate_free {l : Link} (h : l.sending = none) :
    l.arbitrate.sending = l.nextFrame.map (⟨·, 0⟩) ∧ l.arbitrate.reply = none
      ∧ l.arbitrate.notices = if l.reply.isSome then l.notices else l.notices.tail := by
  obtain ⟨y, hs, -⟩ | ⟨r, hs, hr, ha⟩ | ⟨n, q, hs, hr, hn, ha⟩ | ⟨hs, hr, hn, ha⟩ := l.arbitrate_cases
  · rw [h] at hs; cases hs
  · simp [ha, Link.nextFrame, hr]
  · simp [ha, Link.nextFrame, hr, hn]
  · simp [ha, Link.nextFrame, hr, hn, hs]

/-- Settles O19: what raising a notice can do, and the line after the ticks that its frame still took. -/
theorem transmitCompleteChoosesTheNextFrame : Obligations.TransmitCompleteChoosesTheNextFrame := by
  refine ⟨fun n s => ?_, fun x s hsending hpass => ?_⟩
  · obtain ⟨he, hr⟩ | ⟨he, hroom, hr⟩ | ⟨he, hfull, hr⟩ := State.raise_cases n s
    · have he : s.link.enables.getLsbD n.place = false := he
      exact ⟨fun _ => hr, fun h => absurd (he.symm.trans h) (by decide), fun h => absurd (he.symm.trans h) (by decide)⟩
    · have he : s.link.enables.getLsbD n.place = true := he
      exact ⟨fun h => absurd (he.symm.trans h) (by decide), fun _ _ => hr, fun _ h => absurd hroom (Nat.not_lt.mpr h)⟩
    · have he : s.link.enables.getLsbD n.place = true := he
      exact ⟨fun h => absurd (he.symm.trans h) (by decide), fun _ h => absurd hfull (Nat.not_le.mpr h), fun _ _ => hr⟩
  · have hact : s.endSending
        = (s.elapse (x.frame.ticks - x.elapsed)).setLink
            { (s.elapse (x.frame.ticks - x.elapsed)).link with sending := none } := by
      unfold State.endSending State.atDate; rw [hsending]
      exact if_pos hpass
    refine ⟨_, rfl, ?_⟩
    rw [hact]
    obtain ⟨hs, hr, hn⟩ := arbitrate_free
      (l := { (s.elapse (x.frame.ticks - x.elapsed)).link with sending := none }) rfl
    exact ⟨hs, hr, hn, rfl, by simp [State.elapse, Link.elapse], by simp [State.elapse, Link.elapse],
      by simp [State.elapse, Link.elapse], by simp [State.elapse, Link.elapse], rfl,
      fun i => by simp [(RecordPlaces.elapse_seated _ _).1, Station.elapse_state]⟩

end line

end Sys2Proof.Proofs.Receiving

/-! # Fields at their places (11.2, R195)

Reading a field of a payload or a reply that is written as blocks one after the other: a block that ends before the field is
skipped, and a block at the field is read. -/

namespace Sys2Proof.Proofs.Fields
open Sys2Proof Sys2Proof.Machine Sys2Proof.Proofs.Steps Sys2Proof.Proofs.Requests
open Sys2Proof.Proofs.SampleRequests (indicatorAt_here indicatorAt_skip)

set_option Elab.async false

section fields
variable {a b rest : List Byte} {o w n : Nat}

theorem field_last (w n : Nat) : field (leBytes w n) 0 w = n % 256 ^ w := by
  simpa using field_here w n []

theorem field_indicator (x : Bool) : field (indicator x) 0 1 = if x then 1 else 0 := by cases x <;> rfl

theorem field_indicator_here (x : Bool) (rest : List Byte) :
    field (indicator x ++ rest) 0 1 = if x then 1 else 0 := by cases x <;> rfl

theorem field_cons (x : Byte) (l : List Byte) (o w : Nat) : field (x :: l) (o + 1) w = field l o w := rfl

theorem field_cons_here (x : Byte) (l : List Byte) : field (x :: l) 0 1 = x.toNat := by
  simp [field, leValue]

theorem indicatorAt_last (x : Bool) : indicatorAt (indicator x) 0 = some x := by cases x <;> rfl

theorem familyAt_here (f : Family) (rest : List Byte) : familyAt (leBytes 1 (familyCode f) ++ rest) 0 = some f := by
  cases f <;> rfl

theorem familyAt_last (f : Family) : familyAt (leBytes 1 (familyCode f)) 0 = some f := by cases f <;> rfl

theorem familyAt_skip (h : a.length ≤ o) : familyAt (a ++ b) o = familyAt b (o - a.length) := by
  simp only [familyAt, field_skip a b o 1 h]

theorem optionalAt_skip (h : a.length ≤ o) : optionalAt (a ++ b) o w = optionalAt b (o - a.length) w := by
  have h' : o + 1 - a.length = o - a.length + 1 := by omega
  simp only [optionalAt, indicatorAt_skip h, field_skip a b (o + 1) w (by omega), h']

theorem familyAt_isSome (h : field a o 1 < 2) : (familyAt a o).isSome = true := by
  unfold familyAt
  generalize field a o 1 = k at h
  obtain rfl | rfl : k = 0 ∨ k = 1 := by omega
  · rfl
  · rfl

/-- R195: an optional field reads as the one written there. -/
theorem optionalAt_here (x : Option Nat) (hx : ∀ k, x = some k → k < 256 ^ w) (rest : List Byte) :
    optionalAt (optional w x ++ rest) 0 w = some x := by
  cases x with
  | none => rfl
  | some k =>
    have hk : field (leBytes w k ++ rest) 0 w = k := by rw [field_here, Nat.mod_eq_of_lt (hx k rfl)]
    exact congrArg (some ∘ some) hk

theorem optionalAt_last (x : Option Nat) (hx : ∀ k, x = some k → k < 256 ^ w) : optionalAt (optional w x) 0 w = some x := by
  simpa using optionalAt_here x hx []

theorem numbered_val {k : Nat} (n : Fin k) : numbered k n.val = some n := by simp [numbered]

theorem ofLength_eq {α : Type} {k : Nat} {p : List Byte} {x : Option α} (h : p.length = k) : ofLength k p x = x := if_pos h

end fields

/-! ### A request whose payload reads back -/

section reading
variable {α : Type} {i : Instr} {o : Option α} {h : α → State → State × Reply} {a : α} {s t : State} {kind tag : Byte}
  {payload : List Byte} {reply : Reply}

/-- R186, R187: a request whose fields are read is answered with what its owner does. -/
theorem exec_reading (e : handlerOf i = some (withLayout o h)) (r : requestOf i = some (kind, tag, payload))
    (ht : s.TurnOf ⟨kind, tag, payload⟩) (ho : o = some a) (hh : h a s.takeFromQueue = (t, reply)) :
    exec i s = .next (t.sends (replyFrame kind tag reply.status reply.body)) :=
  exec_answered e r ht (by rw [ho]; exact hh)

end reading

/-! ### The fields of the requests, read back -/

section requests

theorem readTiming_bytes {t : StationTiming} (h1 : t.pierceTime < 65536) (h2 : t.emptyThreshold < 65536)
    (h3 : t.vacuumTarget < 65536) (h4 : t.evacLimit < 65536) (h5 : t.holdTime < 65536) (h6 : t.riseLimit < 65536)
    (h7 : t.suspendLimit < 65536) (h8 : t.traceInterval < 256) : readTiming t.bytes = some t := by
  rw [readTiming, ofLength_eq (by simp [StationTiming.bytes])]
  simp (disch := simp) only [StationTiming.bytes, List.append_assoc, field_skip, field_here, field_last, leBytes_length,
    Nat.reduceSub, Nat.reducePow]
  rw [Nat.mod_eq_of_lt h1, Nat.mod_eq_of_lt h2, Nat.mod_eq_of_lt h3, Nat.mod_eq_of_lt h4,
    Nat.mod_eq_of_lt h5, Nat.mod_eq_of_lt h6, Nat.mod_eq_of_lt h7, Nat.mod_eq_of_lt h8]

theorem readReceiverAndNumber_bytes (f : Family) {n : Nat} (h : n < 2 ^ 32) :
    readReceiverAndNumber (leBytes 1 (familyCode f) ++ leBytes 4 n) = some (f, n) := by
  rw [readReceiverAndNumber, ofLength_eq (by simp), familyAt_here]
  simp (disch := simp) only [field_skip, field_last, leBytes_length, Nat.reduceSub, Option.map_some]
  rw [show (256 : Nat) ^ 4 = 2 ^ 32 from rfl, Nat.mod_eq_of_lt h]

theorem readChamberLimits_bytes {l : ChamberLimits} (h1 : l.inertPermit < 256) (h2 : l.inertTimeout < 65536)
    (h3 : l.ventLevel < 65536) (h4 : l.ventTimeout < 65536) : readChamberLimits l.bytes = some l := by
  rw [readChamberLimits, ofLength_eq (by simp [ChamberLimits.bytes])]
  simp (disch := simp) only [ChamberLimits.bytes, List.append_assoc, field_skip, field_here, field_last, leBytes_length,
    Nat.reduceSub, Nat.reducePow]
  rw [Nat.mod_eq_of_lt h1, Nat.mod_eq_of_lt h2, Nat.mod_eq_of_lt h3, Nat.mod_eq_of_lt h4]

theorem readArithmeticLimits_bytes {d m : Nat} (h1 : d < 65536) (h2 : m < 65536) :
    readArithmeticLimits (leBytes 2 d ++ leBytes 2 m) = some (d, m) := by
  rw [readArithmeticLimits, ofLength_eq (by simp)]
  simp (disch := simp) only [field_skip, field_here, field_last, leBytes_length, Nat.reduceSub, Nat.reducePow]
  rw [Nat.mod_eq_of_lt h1, Nat.mod_eq_of_lt h2]

theorem readProtectionLimits_bytes {l : ProtectionLimits} (h1 : l.loadTripPercent < 256) (h2 : l.oxygenTrip < 256)
    (h3 : l.clearPercent < 256) (h4 : l.clearHold < 65536) : readProtectionLimits l.bytes = some l := by
  rw [readProtectionLimits, ofLength_eq (by simp [ProtectionLimits.bytes])]
  simp (disch := simp) only [ProtectionLimits.bytes, List.append_assoc, field_skip, field_here, field_last, leBytes_length,
    Nat.reduceSub, Nat.reducePow]
  rw [Nat.mod_eq_of_lt h1, Nat.mod_eq_of_lt h2, Nat.mod_eq_of_lt h3, Nat.mod_eq_of_lt h4]

theorem readSignalLimits_bytes {h n : Nat} (h1 : h < 256) (h2 : n < 65536) :
    readSignalLimits (leBytes 1 h ++ leBytes 2 n) = some (h, n) := by
  rw [readSignalLimits, ofLength_eq (by simp)]
  simp (disch := simp) only [field_skip, field_here, field_last, leBytes_length, Nat.reduceSub, Nat.reducePow]
  rw [Nat.mod_eq_of_lt h1, Nat.mod_eq_of_lt h2]

theorem readEnables_bytes (e : BitVec 13) : readEnables (leBytes 2 e.toNat) = some e := by
  have h : e.toNat < 8192 := e.isLt
  rw [readEnables, ofLength_eq (by simp), field_last, Nat.mod_eq_of_lt (by omega), if_pos h]
  simp

end requests

/-! ### Settings (2.10, 3.6, 4.2, 5.2, 7.2, 8.5, 10.5) -/

section settings
variable {s : State}

theorem handleSetTiming_offline {t : StationTiming} (hm : s.link.mode = .offline) :
    handleSetTiming t s = if t.inRange then ({ s with timing := t }, ⟨.done, t.bytes⟩) else s.refuse .outOfRange := by
  unfold handleSetTiming
  cases h : t.inRange <;> simp [hm]

theorem handleSetFillLimit_offline {f : Family} {n : Nat} (hm : s.link.mode = .offline) :
    handleSetFillLimit (f, n) s = if 1000 ≤ n ∧ n ≤ 100000
      then (s.setReceiver f { s.receiver f with fillLimit := n }, ⟨.done, leBytes 4 n⟩) else s.refuse .outOfRange := by
  unfold handleSetFillLimit
  by_cases h : 1000 ≤ n ∧ n ≤ 100000
  · simp [hm, h, Nat.not_lt.mpr h.1, Nat.not_lt.mpr h.2]
  · have : n < 1000 ∨ 100000 < n := by omega
    simp [hm, h, this]

theorem handleSetChamberLimits_offline {l : ChamberLimits} (hm : s.link.mode = .offline) :
    handleSetChamberLimits l s = if l.inRange then (s.setChamber { s.chamber with limits := l }, ⟨.done, l.bytes⟩)
      else s.refuse .outOfRange := by
  unfold handleSetChamberLimits
  cases h : l.inRange <;> simp [hm]

theorem handleSetArithmetic_offline {d m : Nat} (hm : s.link.mode = .offline) :
    handleSetArithmetic (d, m) s = if d ≤ 200 ∧ m ≤ 10000
      then ({ s with deadBand := d, maximumBaseline := m }, ⟨.done, leBytes 2 d ++ leBytes 2 m⟩)
      else s.refuse .outOfRange := by
  unfold handleSetArithmetic
  by_cases h : d ≤ 200 ∧ m ≤ 10000
  · simp [hm, h, Nat.not_lt.mpr h.1, Nat.not_lt.mpr h.2]
  · have : 200 < d ∨ 10000 < m := by omega
    simp [hm, h, this]

theorem handleSetProtection_offline {l : ProtectionLimits} (hm : s.link.mode = .offline) :
    handleSetProtection l s = if l.inRange then (s.setProtection { s.protection with limits := l }, ⟨.done, l.bytes⟩)
      else s.refuse .outOfRange := by
  unfold handleSetProtection
  cases h : l.inRange <;> simp [hm]

theorem handleSetSignalLimits_offline {h n : Nat} (hm : s.link.mode = .offline) (hh : h < 256) :
    handleSetSignalLimits (h, n) s = if 1 ≤ h ∧ n ≤ 1000
      then (s.setScanner { s.scanner with holdLimit := h, settlingCount := n }, ⟨.done, leBytes 1 h ++ leBytes 2 n⟩)
      else s.refuse .outOfRange := by
  unfold handleSetSignalLimits
  by_cases hr : 1 ≤ h ∧ n ≤ 1000
  · have h1 : ¬ h < 1 := by omega
    have h2 : ¬ 255 < h := by omega
    simp [hm, hr, h1, h2, Nat.not_lt.mpr hr.2]
  · have : h < 1 ∨ 255 < h ∨ 1000 < n := by omega
    have : h < 1 ∨ 1000 < n := by omega
    simp [hm, hr, or_assoc]
    intro h1; omega

/-- A request that stores its values in their range and is refused out of it, from its owner's two outcomes. -/
theorem exec_stored {α : Type} {i : Instr} {o : Option α} {h : α → State → State × Reply} {a : α} {t : State}
    {kind tag : Byte} {payload body : List Byte} {P Q : Prop} [Decidable P] [Decidable Q]
    (e : handlerOf i = some (withLayout o h)) (r : requestOf i = some (kind, tag, payload))
    (ht : s.TurnOf ⟨kind, tag, payload⟩) (ho : o = some a) (hpq : P ↔ Q)
    (hh : h a s.takeFromQueue = if P then (t, ⟨.done, body⟩) else s.takeFromQueue.refuse .outOfRange) :
    exec i s = .next (if Q then t.sends (replyFrame kind tag .done body)
      else s.takeFromQueue.sends (replyFrame kind tag .outOfRange [])) := by
  by_cases hp : P
  · rw [if_pos hp] at hh
    rw [if_pos (hpq.mp hp), exec_reading e r ht ho hh]
  · rw [if_neg hp] at hh
    rw [if_neg (mt hpq.mpr hp), exec_reading e r ht ho hh]
    rfl

end settings

/-- Settles O24: each request reads back its values, and its owner stores them in their range. -/
theorem settingsAreStored : Obligations.SettingsAreStored := by
  refine fun tag s => ⟨fun hm => ?_, fun e ht => ?_⟩
  · have hm' : s.takeFromQueue.link.mode = .offline := hm
    refine ⟨fun t ht h1 h2 h3 h4 h5 h6 h7 h8 => ?_, fun f n ht hn => ?_, fun l ht h1 h2 h3 h4 => ?_, fun d m ht h1 h2 => ?_,
      fun l ht h1 h2 h3 h4 => ?_, fun h n ht h1 h2 => ?_⟩
    · refine exec_stored rfl rfl ht (readTiming_bytes h1 h2 h3 h4 h5 h6 h7 h8) ?_ (handleSetTiming_offline hm')
      simp only [StationTiming.inRange, Bool.and_eq_true, decide_eq_true_eq]
      omega
    · exact exec_stored rfl rfl ht (readReceiverAndNumber_bytes f hn) Iff.rfl
        ((handleSetFillLimit_offline hm').trans (by rw [State.takeFromQueue_receiver]))
    · refine exec_stored rfl rfl ht (readChamberLimits_bytes h1 h2 h3 h4) ?_ (handleSetChamberLimits_offline hm')
      simp only [ChamberLimits.inRange, Bool.and_eq_true, decide_eq_true_eq, and_assoc]
    · exact exec_stored rfl rfl ht (readArithmeticLimits_bytes h1 h2) Iff.rfl (handleSetArithmetic_offline hm')
    · refine exec_stored rfl rfl ht (readProtectionLimits_bytes h1 h2 h3 h4) ?_ (handleSetProtection_offline hm')
      simp only [ProtectionLimits.inRange, Bool.and_eq_true, decide_eq_true_eq, and_assoc]
    · exact exec_stored rfl rfl ht (readSignalLimits_bytes h1 h2) Iff.rfl (handleSetSignalLimits_offline hm' h1)
  · exact exec_reading (h := handleSetEnables) rfl rfl ht (readEnables_bytes e) rfl

/-! ### Outside OFFLINE (10.7) -/

/-- Settles O25: the mode is checked before anything that the fields say. -/
theorem configurationNeedsOffline : Obligations.ConfigurationNeedsOffline := by
  intro i kind tag payload s hwf r hlen ht hm hkind
  have hm' : s.takeFromQueue.link.mode ≠ .offline := hm
  have refused {α : Type} {o : Option α} {h : α → State → State × Reply} (e : handlerOf i = some (withLayout o h))
      (ho : o.isSome = true) (hh : ∀ a, h a s.takeFromQueue = s.takeFromQueue.refuse .wrongMode) :
      exec i s = .next (s.takeFromQueue.sends (replyFrame kind tag .wrongMode [])) := by
    obtain ⟨a, ha⟩ := Option.isSome_iff_exists.mp ho
    exact exec_reading e r ht ha (hh a)
  have length {n : Nat} (hn : requestLength kind = some n) : payload.length = n := by
    rw [hlen] at hn; exact Option.some.inj hn
  cases i <;> simp only [requestOf, Option.some.injEq, Prod.mk.injEq, reduceCtorEq] at r <;>
    (obtain ⟨rfl, rfl, rfl⟩ := r)
  case badKind =>
    have hk := namesRequest_of_length hlen
    rw [namesRequest_of_wf_badKind hwf] at hk; cases hk
  case setStationTiming =>
    exact refused rfl (by rw [readTiming, ofLength_eq (length rfl)]; rfl) fun _ => by simp [handleSetTiming, hm]
  case setChamberLimits =>
    exact refused rfl (by rw [readChamberLimits, ofLength_eq (length rfl)]; rfl) fun _ => by
      simp [handleSetChamberLimits, hm]
  case setArithmeticLimits =>
    exact refused rfl (by rw [readArithmeticLimits, ofLength_eq (length rfl)]; rfl) fun _ => by
      simp [handleSetArithmetic, hm]
  case setProtectionLimits =>
    exact refused rfl (by rw [readProtectionLimits, ofLength_eq (length rfl)]; rfl) fun _ => by
      simp [handleSetProtection, hm]
  case scannerReset =>
    exact refused (h := fun _ => handleScannerReset) rfl (by rw [readNothing, ofLength_eq (length rfl)]; rfl) fun _ => by
      simp [handleScannerReset, hm]
  case setSignalLimits =>
    exact refused rfl (by rw [readSignalLimits, ofLength_eq (length rfl)]; rfl) fun _ => by
      simp [handleSetSignalLimits, hm]
  case setFillLimit _ p =>
    have hf : (readReceiverAndNumber p).isSome = true := by
      rw [readReceiverAndNumber, ofLength_eq (length rfl), Option.isSome_map]
      obtain h | ⟨-, h⟩ | ⟨h, -⟩ | ⟨h, -⟩ | ⟨h, -⟩ := hkind
      · exact absurd h (by decide)
      · exact familyAt_isSome h
      all_goals exact absurd h (by decide)
    exact refused rfl hf fun _ => by simp [handleSetFillLimit, hm]
  case setClassEntry _ p =>
    have hc : (readSetClass p).isSome = true := by
      rw [readSetClass, ofLength_eq (length rfl), Option.isSome_map]
      obtain h | ⟨h, -⟩ | ⟨-, h⟩ | ⟨h, -⟩ | ⟨h, -⟩ := hkind
      · exact absurd h (by decide)
      · exact absurd h (by decide)
      · exact h
      all_goals exact absurd h (by decide)
    exact refused rfl hc fun _ => by simp [handleSetClass, hm]
  case setGasEntry _ p =>
    have hg : (readSetGas p).isSome = true := by
      rw [readSetGas, ofLength_eq (length rfl), Option.isSome_map]
      obtain h | ⟨h, -⟩ | ⟨h, -⟩ | ⟨-, h⟩ | ⟨h, -⟩ := hkind
      · exact absurd h (by decide)
      · exact absurd h (by decide)
      · exact absurd h (by decide)
      · exact h
      · exact absurd h (by decide)
    exact refused rfl hg fun _ => by simp [handleSetGas, hm]
  case bindSignal =>
    obtain h | ⟨h, -⟩ | ⟨h, -⟩ | ⟨h, -⟩ | ⟨-, h⟩ := hkind
    · exact absurd h (by decide)
    · exact absurd h (by decide)
    · exact absurd h (by decide)
    · exact absurd h (by decide)
    · exact refused rfl h fun _ => by simp [handleBind, hm]
  all_goals
    obtain h | ⟨h, -⟩ | ⟨h, -⟩ | ⟨h, -⟩ | ⟨h, -⟩ := hkind <;> exact absurd h (by decide)

end Sys2Proof.Proofs.Fields

/-! # The status reply, and the table entries (11.8, 11.9) -/

namespace Sys2Proof.Proofs.Tables
open Sys2Proof Sys2Proof.Machine Sys2Proof.Proofs.Steps Sys2Proof.Proofs.Requests Sys2Proof.Proofs.Fields
open Sys2Proof.Proofs.SampleRequests (indicatorAt_here indicatorAt_skip)

set_option Elab.async false

/-! ### Codes and masks fit their fields (11.4) -/

/-- 11.4: a set of n bits is a number below 2^n. -/
theorem maskOf_lt (l : List Bool) : maskOf l < 2 ^ l.length := by
  induction l with
  | nil => exact Nat.one_pos
  | cons b l ih =>
    rw [List.length_cons, Nat.pow_succ]
    simp only [maskOf]
    split <;> omega

theorem tripCauses_mask_lt (c : TripCauses) : c.mask < 256 := Nat.lt_of_lt_of_le (maskOf_lt _) (by simp)

theorem readFlags_mask_lt (c : ReadFlags) : c.mask < 256 := Nat.lt_of_lt_of_le (maskOf_lt _) (by simp)

theorem lineMode_code_lt (x : LineMode) : x.code < 256 := by cases x <;> decide

theorem stationState_code_lt (x : StationState) : x.code < 256 := by cases x <;> decide

theorem condition_code_lt (x : Condition) : x.code < 256 := by cases x <;> decide

theorem chamberStanding_code_lt (x : ChamberStanding) : x.code < 256 := by
  cases x <;> (show _ < 256; simp [ChamberStanding.code, ChamberStanding.ctorIdx])

/-! ### The status reply (11.8) -/

section status
variable (s : State)

theorem station_statusBytes_length (st : Station) : st.statusBytes.length = 8 := by simp [Station.statusBytes]

/-- 11.8: the status reply, block after block. -/
theorem statusBytes_eq : s.statusBytes
    = leBytes 1 s.link.mode.code ++ (leBytes 1 s.protection.causes.mask ++ ((s.station 0).statusBytes
      ++ ((s.station 1).statusBytes ++ ((s.station 2).statusBytes ++ ((s.station 3).statusBytes
      ++ (leBytes 1 s.receiverF.standing.name.code ++ (leBytes 1 s.receiverH.standing.name.code
      ++ (leBytes 1 s.chamber.standing.code ++ (optional 1 (s.chamber.standing.phase.map Phase.code)
      ++ (leBytes 1 s.tracker.units.length ++ (unitStates.flatMap (fun x => leBytes 1 (s.tracker.countIn x))
      ++ (leBytes 1 s.tracker.degasQueue.length ++ (leBytes 1 s.tracker.shredQueue.length
      ++ (leBytes 1 s.tracker.closedList.length ++ (leBytes 2 s.sample.fifo.length
      ++ (leBytes 2 s.scanner.settlingRemaining ++ (allRoles.flatMap (fun r => leBytes 1 (s.latestReading r).condition.code)
      ++ (leBytes 1 s.link.notices.length ++ (leBytes 1 s.link.requests.length ++ (leBytes 2 s.link.enables.toNat
      ++ leBytes 1 s.link.flags.mask)))))))))))))))))))) := by
  simp only [State.statusBytes, allStations, List.flatMap_cons, List.flatMap_nil, List.append_assoc, List.append_nil]

theorem unitCounts_length : (unitStates.flatMap fun x => leBytes 1 (s.tracker.countIn x)).length = 7 := by
  simp [unitStates]

theorem conditions_length : (allRoles.flatMap fun r => leBytes 1 (s.latestReading r).condition.code).length = 17 := by
  simp [allRoles]

/-- 11.8: the conditions of the roles, in role order. -/
theorem field_conditions (r : RoleNo) (rest : List Byte) :
    field (allRoles.flatMap (fun r => leBytes 1 (s.latestReading r).condition.code) ++ rest) r.val 1
      = (s.latestReading r).condition.code := by
  have hc (r : RoleNo) : BitVec.toNat (BitVec.ofNat 8 (s.latestReading r).condition.code) = (s.latestReading r).condition.code := by
    rw [BitVec.toNat_ofNat, Nat.mod_eq_of_lt (condition_code_lt _)]
  have h : allRoles.flatMap (fun r => leBytes 1 (s.latestReading r).condition.code)
      = allRoles.map fun r => BitVec.ofNat 8 (s.latestReading r).condition.code := by
    rw [List.map_eq_flatMap]; rfl
  have hr : allRoles[r.val]? = some r := by revert r; decide
  rw [h, field, List.drop_append_of_le_length (by simp [allRoles])]
  have hlt : r.val < (allRoles.map fun r => BitVec.ofNat 8 (s.latestReading r).condition.code).length := by
    simp [allRoles]
  rw [List.drop_eq_getElem_cons hlt]
  simp only [List.cons_append, List.take_succ_cons, List.take_zero, leValue, List.getElem_map]
  have hget : allRoles[r.val]'(by simpa using hlt) = r := by
    rw [List.getElem?_eq_some_iff] at hr
    exact hr.2
  rw [hget, hc]; rfl

end status

/-- Settles O23: the reply is the status block, and its handler clears the flags. -/
theorem queryStatusReportsAndClears : Obligations.QueryStatusReportsAndClears := by
  intro tag s ht
  refine ⟨s.takeFromQueue.statusBytes,
    exec_reading (h := fun _ => handleQueryStatus) (a := ()) rfl rfl ht rfl rfl, ?_⟩
  have hstation := station_statusBytes_length
  have hcounts := unitCounts_length s.takeFromQueue
  have hconds := conditions_length s.takeFromQueue
  have hrole := field_conditions s.takeFromQueue
  rw [statusBytes_eq]
  generalize unitStates.flatMap (fun x => leBytes 1 (s.takeFromQueue.tracker.countIn x)) = counts at hcounts ⊢
  generalize allRoles.flatMap (fun r => leBytes 1 (s.takeFromQueue.latestReading r).condition.code) = conditions
    at hconds hrole ⊢
  refine ⟨by simp only [List.length_append, leBytes_length, optional_length, hstation, hcounts, hconds], ?_, ?_, fun i => ?_,
    ?_, ?_, ?_, ?_, fun r => ?_, ?_, ?_, ?_, ?_⟩
  · rw [field_here, Nat.pow_one, Nat.mod_eq_of_lt (lineMode_code_lt _)]; rfl
  · rw [field_skip _ _ _ _ (by simp), leBytes_length, field_here, Nat.pow_one, Nat.mod_eq_of_lt (tripCauses_mask_lt _)]; rfl
  · have hstate (st : Station) (rest : List Byte) : field (st.statusBytes ++ rest) 0 1 = st.state.code := by
      rw [Station.statusBytes, List.append_assoc, List.append_assoc, field_here, Nat.pow_one,
        Nat.mod_eq_of_lt (stationState_code_lt _)]
    revert i
    simp (disch := simp [hstation]) only [Fin.forall_fin_succ, Fin.val_zero, Fin.val_succ, Nat.mul_zero, Nat.add_zero,
      Nat.zero_add, Nat.reduceMul, Nat.reduceAdd, field_skip, leBytes_length, hstation, Nat.reduceSub, hstate]
    simp
  · simp (disch := simp [hstation, hcounts, hconds]) only [field_skip, leBytes_length, optional_length, hstation, hcounts,
      hconds, Nat.reduceSub, Nat.reduceAdd, field_here, field_last, Nat.pow_one]
    exact Nat.mod_eq_of_lt (chamberStanding_code_lt _)
  · simp (disch := simp [hstation, hcounts, hconds]) only [field_skip, leBytes_length, optional_length, hstation, hcounts,
      hconds, Nat.reduceSub, Nat.reduceAdd, field_here, field_last, Nat.pow_one]
    rfl
  · simp (disch := simp [hstation, hcounts, hconds]) only [field_skip, leBytes_length, optional_length, hstation, hcounts,
      hconds, Nat.reduceSub, Nat.reduceAdd, field_here, field_last, Nat.pow_one]
    rfl
  · simp (disch := simp [hstation, hcounts, hconds]) only [field_skip, leBytes_length, optional_length, hstation, hcounts,
      hconds, Nat.reduceSub, Nat.reduceAdd, field_here, field_last, Nat.pow_one]
    rfl
  · have hpast : 54 ≤ 54 + r.val := Nat.le_add_right _ _
    simp (disch := (simp [hstation, hcounts]; omega)) only [field_skip, leBytes_length, optional_length, hstation, hcounts]
    rw [show 54 + r.val - 1 - 1 - 8 - 8 - 8 - 8 - 1 - 1 - 1 - (1 + 1) - 1 - 7 - 1 - 1 - 1 - 2 - 2 = r.val by omega]
    exact hrole r _
  · simp (disch := simp [hstation, hcounts, hconds]) only [field_skip, leBytes_length, optional_length, hstation, hcounts,
      hconds, Nat.reduceSub, Nat.reduceAdd, field_here, field_last, Nat.pow_one]
    rfl
  · simp (disch := simp [hstation, hcounts, hconds]) only [field_skip, leBytes_length, optional_length, hstation, hcounts,
      hconds, Nat.reduceSub, Nat.reduceAdd, field_here, field_last, Nat.pow_one]
    rfl
  · simp (disch := simp [hstation, hcounts, hconds]) only [field_skip, leBytes_length, optional_length, hstation, hcounts,
      hconds, Nat.reduceSub, Nat.reduceAdd, field_here, field_last, Nat.pow_one]
    exact Nat.mod_eq_of_lt (Nat.lt_of_lt_of_le s.link.enables.isLt (by simp))
  · simp (disch := simp [hstation, hcounts, hconds]) only [field_skip, leBytes_length, optional_length, hstation, hcounts,
      hconds, Nat.reduceSub, Nat.reduceAdd, field_here, field_last, Nat.pow_one]
    exact Nat.mod_eq_of_lt (readFlags_mask_lt _)

/-! ### Class Table entries (1.3) -/

/-- The length of a written indicator, as a rewriting that is no definitional one. -/
theorem length_indicator (b : Bool) : (indicator b).length = 1 := by cases b <;> rfl

section classes
variable {s : State}

/-- R16: a class's gas that is absent or defined is taken as it stands. -/
theorem classGas_eq {o : Option GasIndex} (h : ∀ g, o = some g → s.gases[g] ≠ none) :
    s.classGas (o.map (·.val)) = some o := by
  cases o with
  | none => rfl
  | some g =>
    have hg : (s.gas g).isSome = true := Option.isSome_iff_ne_none.mpr (h g rfl)
    simp [State.classGas, numbered_val, hg]

theorem inRangeIfPresent_eq {most : Nat} {x : Option Nat} (h : ∀ k, x = some k → k ≤ most) : inRangeIfPresent 0 most x = true := by
  cases x with
  | none => rfl
  | some k => simp [inRangeIfPresent, h k rfl]

/-- R15, R16: operands in range make the entry with their defaults stored. -/
theorem classEntryOf_eq {circuit foam : Option GasIndex} {weight : Nat} {threshold minimum : Option Nat}
    (hc : ∀ g, circuit = some g → s.gases[g] ≠ none) (hf : ∀ g, foam = some g → s.gases[g] ≠ none) (hw : weight ≤ 20000)
    (ht : ∀ x, threshold = some x → x ≤ 1000) (hm : ∀ x, minimum = some x → x ≤ 200000) :
    s.classEntryOf ⟨circuit.map (·.val), foam.map (·.val), weight, threshold, minimum⟩
      = some ⟨circuit, foam, weight, threshold.getD 900, minimum.getD 60000⟩ := by
  simp [State.classEntryOf, classGas_eq hc, classGas_eq hf, hw, inRangeIfPresent_eq ht, inRangeIfPresent_eq hm]

theorem gasIndex_lt (o : Option GasIndex) : ∀ k, o.map (·.val) = some k → k < 256 ^ 1 := by
  intro k hk
  obtain ⟨g, -, rfl⟩ := Option.map_eq_some_iff.mp hk
  omega

/-- 11.3: the fields of a defined class entry, read back. -/
theorem readSetClass_defined (n : Fin 32) {circuit foam : Option GasIndex} {weight : Nat} {threshold minimum : Option Nat}
    (hw : weight ≤ 20000) (ht : ∀ x, threshold = some x → x ≤ 1000) (hm : ∀ x, minimum = some x → x ≤ 200000) :
    readSetClass (leBytes 1 n.val ++ [0x01#8] ++ optional 1 (circuit.map (·.val)) ++ optional 1 (foam.map (·.val))
        ++ leBytes 2 weight ++ optional 2 threshold ++ optional 4 minimum)
      = some (n.val, some ⟨circuit.map (·.val), foam.map (·.val), weight, threshold, minimum⟩) := by
  have ht' : ∀ k, threshold = some k → k < 256 ^ 2 := fun k hk => by have := ht k hk; omega
  have hm' : ∀ k, minimum = some k → k < 256 ^ 4 := fun k hk => by have := hm k hk; omega
  rw [readSetClass, ofLength_eq (by simp), readClassBlock, show [0x01#8] = indicator true from rfl]
  simp (disch := simp [-indicator_length, length_indicator]) only [List.append_assoc, indicatorAt_skip, indicatorAt_here,
    optionalAt_skip, field_skip, leBytes_length, indicator_length, optional_length, Nat.reduceSub, Nat.reduceAdd, optionalAt_here _ (gasIndex_lt _), field_here,
    optionalAt_here _ ht', optionalAt_last _ hm']
  rw [Nat.mod_eq_of_lt (by omega), Nat.mod_eq_of_lt (by omega)]
  rfl

/-- 11.3: an undefined entry is read by its indicator alone. -/
theorem readSetClass_undefined (n : Fin 32) {unused : List Byte} (h : unused.length = 14) :
    readSetClass (leBytes 1 n.val ++ [0x00#8] ++ unused) = some (n.val, none) := by
  rw [readSetClass, ofLength_eq (by simp [h]), readClassBlock, show [0x00#8] = indicator false from rfl]
  simp (disch := simp) only [List.append_assoc, indicatorAt_skip, indicatorAt_here, leBytes_length, Nat.reduceSub, field_here]
  rw [Nat.mod_eq_of_lt (by omega)]
  rfl

theorem handleSetClass_defined (hm : s.link.mode = .offline) (n : Fin 32) {o : ClassOperands} {e : ClassEntry}
    (h : s.classEntryOf o = some e) :
    handleSetClass (n.val, some o) s = (s.setClass n (some e), ⟨.done, leBytes 1 n.val ++ classEntryBytes (some e)⟩) := by
  simp [handleSetClass, hm, numbered_val, h]

theorem handleSetClass_undefined (hm : s.link.mode = .offline) (n : Fin 32) :
    handleSetClass (n.val, none) s = (s.setClass n none, ⟨.done, leBytes 1 n.val ++ classEntryBytes none⟩) := by
  simp [handleSetClass, hm, numbered_val]

end classes

/-! ### Gas Table entries (5.1) -/

section gases
variable {s : State} {e : GasEntry}

/-- R106: an entry's own fields in range make the entry. -/
theorem gasEntryOf_eq (hn : ∀ c ∈ e.name, 0x20 ≤ c.toNat ∧ c.toNat ≤ 0x7E) (h1 : 1000 ≤ e.density) (h2 : e.density ≤ 9999)
    (hl : ∀ l, e.lfl = some l → 1000 ≤ l ∧ l ≤ 60000) :
    gasEntryOf ⟨e.name, e.family, e.density, e.lfl.isSome, e.lfl⟩ = some e := by
  have hp : printable e.name = true := by simpa [printable] using hn
  have ha : lflAgrees e.lfl.isSome e.lfl = true := by
    cases hx : e.lfl with
    | none => rfl
    | some l => simp [lflAgrees, hl l hx]
  simp [gasEntryOf, h1, h2, hp, ha]

/-- 11.3: the fields of a defined gas entry, read back. -/
theorem readSetGas_defined (g : GasIndex) (hn : e.name.length = 16) (hd : e.density ≤ 9999)
    (hl : ∀ l, e.lfl = some l → 1000 ≤ l ∧ l ≤ 60000) :
    readSetGas (leBytes 1 g.val ++ [0x01#8] ++ e.name ++ leBytes 1 (familyCode e.family) ++ leBytes 2 e.density
        ++ indicator e.lfl.isSome ++ optional 2 e.lfl)
      = some (g.val, some ⟨e.name, e.family, e.density, e.lfl.isSome, e.lfl⟩) := by
  have hl' : ∀ k, e.lfl = some k → k < 256 ^ 2 := fun k hk => by have := hl k hk; omega
  rw [readSetGas, ofLength_eq (by simp [hn]), readGasBlock, show [0x01#8] = indicator true from rfl]
  have hname (rest : List Byte) :
      ((leBytes 1 g.val ++ (indicator true ++ (e.name ++ rest))).drop 2).take 16 = e.name := by
    rw [← List.append_assoc, List.drop_left' (by simp), List.take_left' hn]
  simp (disch := simp [hn, -indicator_length, length_indicator]) only [List.append_assoc, indicatorAt_skip, indicatorAt_here,
    familyAt_skip, familyAt_here, optionalAt_skip, field_skip, leBytes_length, indicator_length, hn, Nat.reduceSub, field_here, optionalAt_last _ hl', hname]
  rw [Nat.mod_eq_of_lt (by omega), Nat.mod_eq_of_lt (by omega)]
  rfl

/-- 11.3: an undefined entry is read by its indicator alone. -/
theorem readSetGas_undefined (g : GasIndex) {unused : List Byte} (h : unused.length = 23) :
    readSetGas (leBytes 1 g.val ++ [0x00#8] ++ unused) = some (g.val, none) := by
  rw [readSetGas, ofLength_eq (by simp [h]), readGasBlock, show [0x00#8] = indicator false from rfl]
  simp (disch := simp) only [List.append_assoc, indicatorAt_skip, indicatorAt_here, leBytes_length, Nat.reduceSub, field_here]
  rw [Nat.mod_eq_of_lt (by omega)]
  rfl

theorem handleSetGas_defined (hm : s.link.mode = .offline) (g : GasIndex) {o : GasOperands} (h : gasEntryOf o = some e) :
    handleSetGas (g.val, some o) s = (s.setGas g (some e), ⟨.done, leBytes 1 g.val ++ gasEntryBytes (some e)⟩) := by
  simp [handleSetGas, hm, numbered_val, h]

theorem handleSetGas_undefined (hm : s.link.mode = .offline) (g : GasIndex) :
    handleSetGas (g.val, none) s = (s.setGas g none, ⟨.done, leBytes 1 g.val ++ gasEntryBytes none⟩) := by
  simp [handleSetGas, hm, numbered_val]

end gases

/-- Settles O26: each entry is read back from its payload, made from its operands, and stored. -/
theorem tableEntriesAreStored : Obligations.TableEntriesAreStored := by
  intro tag s hm
  have hm' : s.takeFromQueue.link.mode = .offline := hm
  refine ⟨fun n circuit foam weight threshold minimum => ?_, fun n unused hu ht => ?_, fun g e => ?_, fun g unused hu ht => ?_⟩
  · intro payload entry ht hc hf hw hth hmin
    exact exec_reading rfl rfl ht (readSetClass_defined n hw hth hmin)
      (handleSetClass_defined hm' n (classEntryOf_eq (s := s.takeFromQueue) hc hf hw hth hmin))
  · exact exec_reading rfl rfl ht (readSetClass_undefined n hu) (handleSetClass_undefined hm' n)
  · intro payload ht hname hprint h1 h2 hl
    have hbody : payload = leBytes 1 g.val ++ gasEntryBytes (some e) := by
      simp [payload, gasEntryBytes]
    rw [exec_reading rfl rfl ht (readSetGas_defined g hname h2 hl) (handleSetGas_defined hm' g (gasEntryOf_eq hprint h1 h2 hl)),
      ← hbody]
    rfl
  · exact exec_reading rfl rfl ht (readSetGas_undefined g hu) (handleSetGas_undefined hm' g)

end Sys2Proof.Proofs.Tables

/-! # The station requests and the stations' timers (2.4 to 2.8, 2.10) -/

namespace Sys2Proof.Proofs.Stations
open Sys2Proof Sys2Proof.Machine Sys2Proof.Proofs.Frames Sys2Proof.Proofs.Steps Sys2Proof.Proofs.Requests
open Sys2Proof.Proofs.Fields
open Sys2Proof.Proofs.GoOffline (mem_allStations)

set_option Elab.async false

/-! ### Anomalies (1.1.4) -/

theorem severe_iff (a : Anomaly) :
    a.severe = decide (a ∈ [Anomaly.suspendExpired, .aborted, .pulled, .stationSignalLost, .chargeTruncated, .chargeSignalLost]) := by
  cases a <;> rfl

/-- R6: a reported kind joins the list, is there already, or is truncated away. -/
theorem report_eq (a : Anomaly) (u : UnitRecord) :
    u.report a = { u with
      anomalies := if a ∈ u.anomalies ∨ 4 ≤ u.anomalies.length then u.anomalies else u.anomalies ++ [a]
      truncated := u.truncated || decide (a ∉ u.anomalies ∧ 4 ≤ u.anomalies.length)
      severe := u.severe || a.severe } := by
  unfold UnitRecord.report
  by_cases hm : a ∈ u.anomalies
  · simp [hm]
  · by_cases hl : u.anomalies.length < 4
    · have hn : ¬ 4 ≤ u.anomalies.length := by omega
      simp [hm, hl, hn, Config.anomalyListSize]
    · have hn : 4 ≤ u.anomalies.length := by omega
      simp [hm, hl, hn, Config.anomalyListSize]

/-- Settles O31: reporting replaces the record held under the tag by the one with the anomaly applied. -/
theorem anomaliesAreApplied : Obligations.AnomaliesAreApplied := by
  intro n a s after
  have hu (u : UnitRecord) : (if u.tag = n then if u.state = .closed then u else u.report a else u)
      = if u.tag = n ∧ u.state ≠ .closed then after u else u := by
    by_cases ht : u.tag = n
    · by_cases hc : u.state = .closed
      · simp [ht, hc]
      · simp [ht, hc, report_eq, severe_iff, after]
    · simp [ht]
  simp only [State.reportFrom, State.reportAnomaly, State.modifyUnit, State.setTracker, hu]

/-! ### STATION_STATE after a change at one station (2.2) -/

section notes
variable {s t : State} {before : Vector Station 4} {i : StationNo} {x : Station}

theorem noteStation_same (h : before[i].view = (t.station i).view) : t.noteStation before i = t := if_pos h

theorem noteStation_changed (h : before[i].view ≠ (t.station i).view) : t.noteStation before i = t.reports i := if_neg h

@[simp] theorem reports_station (j : StationNo) : (t.reports i).station j = t.station j := State.raise_station ..

/-- R31: where one station has changed, its STATION_STATE alone is sent. -/
theorem noteStations_one (hi : before[i].view ≠ (t.station i).view)
    (hj : ∀ j, j ≠ i → before[j].view = (t.station j).view) : t.noteStations before = t.reports i := by
  have hrest (l : List StationNo) (h : i ∉ l) (u : State) (hu : ∀ j, u.station j = t.station j) :
      l.foldl (fun u j => u.noteStation before j) u = u := by
    induction l with
    | nil => rfl
    | cons j l ih =>
      rw [List.mem_cons, not_or] at h
      rw [List.foldl_cons, noteStation_same (by rw [hu]; exact hj j (Ne.symm h.1)), ih h.2]
  have hwhole (l : List StationNo) (h : i ∈ l) (hn : l.Nodup) :
      l.foldl (fun u j => u.noteStation before j) t = t.reports i := by
    induction l with
    | nil => cases h
    | cons j l ih =>
      rw [List.nodup_cons] at hn
      by_cases hji : j = i
      · subst hji
        rw [List.foldl_cons, noteStation_changed hi]
        exact hrest l hn.1 _ fun _ => reports_station _
      · rw [List.foldl_cons, noteStation_same (hj j hji)]
        exact ih ((List.mem_cons.mp h).resolve_left (Ne.symm hji)) hn.2
  exact hwhole allStations (mem_allStations i) (by decide)

theorem noteStations_none (h : ∀ j : StationNo, before[j].view = (t.station j).view) : t.noteStations before = t := by
  have hl (l : List StationNo) : l.foldl (fun u j => u.noteStation before j) t = t := by
    induction l with
    | nil => rfl
    | cons j l ih => rw [List.foldl_cons, noteStation_same (h j), ih]
  exact hl allStations

theorem getElem_set_ne {α : Type} {n : Nat} (v : Vector α n) (i j : Fin n) (a : α) (h : i ≠ j) : (v.set i a)[j] = v[j] := by
  simp only [Fin.getElem_fin, Vector.getElem_set]
  rw [if_neg fun e => h (Fin.ext e)]

/-- R31: a station replaced by one with another view is reported. -/
theorem noteStations_set (ht : t.stations = before.set i x) (h : x.view ≠ before[i].view) : t.noteStations before = t.reports i := by
  have hst (j : StationNo) : t.station j = (before.set i x)[j] := by rw [State.station, ht]
  refine noteStations_one ?_ fun j hj => ?_
  · rw [hst]
    simpa using h.symm
  · rw [hst, getElem_set_ne _ _ _ _ (Ne.symm hj)]

/-- R31: one replaced by a station with the same view is not. -/
theorem noteStations_set_same (ht : t.stations = before.set i x) (h : x.view = before[i].view) : t.noteStations before = t := by
  have hst (j : StationNo) : t.station j = (before.set i x)[j] := by rw [State.station, ht]
  refine noteStations_none fun j => ?_
  rw [hst]
  by_cases hj : i = j
  · subst hj
    simpa using h.symm
  · rw [getElem_set_ne _ _ _ _ hj]

theorem view_ne_of_state (h : x.state ≠ (s.station i).state) : x.view ≠ s.stations[i].view :=
  fun e => h (congrArg Prod.fst e)

theorem view_ne_of_causes (h : x.causes ≠ (s.station i).causes) : x.view ≠ s.stations[i].view :=
  fun e => h (congrArg (fun v => v.2.2.1) e)

theorem doneWith_set (ht : t.stations = s.stations.set i x) (h : x.view ≠ s.stations[i].view) :
    doneWith s t = (t.reports i, .bare .done) := by
  rw [doneWith, noteStations_set ht h]

@[simp] theorem setStation_setStation (i : StationNo) (x y : Station) : (s.setStation i x).setStation i y = s.setStation i y := by
  simp [State.setStation]

@[simp] theorem blockers_setStation (i : StationNo) (x : Station) (f : Option Family) :
    (s.setStation i x).blockers f = s.blockers f := by
  cases f with
  | none => rfl
  | some f => cases f <;> rfl

@[simp] theorem reportFrom_stations (u : Option Nat) (a : Anomaly) : (s.reportFrom u a).stations = s.stations :=
  reportFrom_differs.stations

theorem reportFrom_station (u : Option Nat) (a : Anomaly) : (s.reportFrom u a).station i = s.station i :=
  reportFrom_differs.station i

end notes

/-! ### A request that names a station (2.10) -/

section named
variable {i : Instr} {h : StationNo → State → State × Reply} {s t : State} {kind tag b : Byte} {k : StationNo} {reply : Reply}

theorem readStation_byte (b : Byte) : readStation [b] = some b.toNat := by
  rw [readStation, ofLength_eq (List.length_singleton ..), field_cons_here]

/-- 2.10: the station named acts on the request. -/
theorem exec_station (e : handlerOf i = some (withLayout (readStation [b]) fun n => onStation n h))
    (r : requestOf i = some (kind, tag, [b])) (ht : s.TurnOf ⟨kind, tag, [b]⟩) (hb : b.toNat = k.val)
    (hh : h k s.takeFromQueue = (t, reply)) :
    exec i s = .next (t.sends (replyFrame kind tag reply.status reply.body)) :=
  exec_reading e r ht (readStation_byte b) (by rw [hb, onStation, numbered_val]; exact hh)

/-- 2.10: a number above 3 names no station. -/
theorem exec_no_station (e : handlerOf i = some (withLayout (readStation [b]) fun n => onStation n h))
    (r : requestOf i = some (kind, tag, [b])) (ht : s.TurnOf ⟨kind, tag, [b]⟩) (hb : 3 < b.toNat) :
    exec i s = .next (s.takeFromQueue.sends (replyFrame kind tag .outOfRange [])) :=
  exec_reading e r ht (readStation_byte b) (t := s.takeFromQueue) (reply := .bare .outOfRange)
    (by rw [onStation, numbered, dif_neg (by omega)]; rfl)

end named

/-! ### SUSPEND_STATION and RESUME_STATION (2.8) -/

section suspend
variable {s : State} {i : StationNo}

theorem suspendFor_requested (st : Station) (h : st.causes = .empty) :
    st.suspendFor .ofRequested = { st with state := .suspended, causes := ⟨true, false, false⟩, suspElapsed := 0 } := by
  rw [Station.suspendFor, h]; rfl

theorem union_requested (c : Causes) : c.union .ofRequested = { c with requested := true } := by
  simp [Causes.union, Causes.ofRequested]

theorem without_requested (c : Causes) : c.without .ofRequested = { c with requested := false } := by
  simp [Causes.without, Causes.ofRequested]

/-- R42: the causes of a station that is not SUSPENDED. -/
theorem causes_of_not_suspended (hc : s.CausesHeld) (h : (s.station i).state ≠ .suspended) : (s.station i).causes = .empty :=
  Classical.not_not.mp (mt (hc i).mp h)

theorem handleSuspend_evacuating (hc : s.CausesHeld) (hm : s.link.mode ≠ .offline) (hs : (s.station i).state = .evacuating) :
    handleSuspend i s = ((s.setStation i
      { s.station i with state := .suspended, causes := ⟨true, false, false⟩, suspElapsed := 0 }).reports i, .bare .done) := by
  rw [handleSuspend, if_neg hm]
  simp only [hs]
  rw [suspendFor_requested _ (causes_of_not_suspended hc (by rw [hs]; decide))]
  exact doneWith_set rfl (view_ne_of_state (by rw [hs]; exact fun e => nomatch e))

theorem handleSuspend_suspended (hm : s.link.mode ≠ .offline) (hs : (s.station i).state = .suspended)
    (hr : (s.station i).causes.requested = false) :
    handleSuspend i s = ((s.setStation i
      { s.station i with causes := { (s.station i).causes with requested := true } }).reports i, .bare .done) := by
  rw [handleSuspend, if_neg hm]
  simp only [hs, hr, union_requested]
  exact doneWith_set rfl (view_ne_of_causes fun e => by rw [← e] at hr; cases hr)

/-- R36: what holds a station back in RUNNING is its receiver alone. -/
theorem blockers_running (hm : s.link.mode = .running) :
    s.blockers (s.station i).family = ⟨false, s.receiverBlocks i, false⟩ := by
  unfold State.blockers State.receiverBlocks
  cases (s.station i).family with
  | none => rfl
  | some f => simp [hm]

theorem handleResume_held (hc : s.CausesHeld) (hm : s.link.mode = .running) (hr : (s.station i).causes.requested = true)
    (ho : (s.station i).causes.receiver = true ∨ (s.station i).causes.trip = true) :
    handleResume i s = ((s.setStation i
      { s.station i with causes := { (s.station i).causes with requested := false } }).reports i, .bare .done) := by
  have hs : (s.station i).state = .suspended := (hc i).mp fun e => by rw [e] at hr; cases hr
  have hleft : ({ (s.station i).causes with requested := false } : Causes).isEmpty = false := by
    obtain h | h := ho <;> simp [Causes.isEmpty, Causes.empty, h]
  rw [handleResume]
  simp only [hm, hr, if_true, State.removeCause, hs, without_requested, hleft]
  exact doneWith_set rfl (view_ne_of_causes fun e => by rw [← e] at hr; cases hr)

/-- R36, R44: a station whose cause set empties enters evacuation, or is held by its receiver. -/
theorem handleResume_empties (hc : s.CausesHeld) (hm : s.link.mode = .running)
    (hr : (s.station i).causes = ⟨true, false, false⟩) :
    handleResume i s = doneWith s (s.setStation i (if s.receiverBlocks i
      then { s.station i with causes := ⟨false, true, false⟩ }
      else { s.station i with state := .evacuating, causes := .empty })) := by
  have hs : (s.station i).state = .suspended := (hc i).mp fun e => by rw [e] at hr; cases hr
  rw [handleResume]
  simp only [hm, hr, if_true, State.removeCause, hs]
  rw [show (⟨true, false, false⟩ : Causes).without .ofRequested = .empty from rfl]
  simp only [Causes.isEmpty, decide_true, if_true, State.entryCheck, State.setStation_station_self, blockers_setStation,
    setStation_setStation, blockers_running hm]
  cases hrb : s.receiverBlocks i
  · rfl
  · simp [Station.enterEvacuation, Causes.isEmpty, Causes.empty, Causes.union, hs]

end suspend

/-- Settles O32, case by case of the line mode, the state and the cause set. -/
theorem stationsSuspendAndResume : Obligations.StationsSuspendAndResume := by
  refine ⟨fun tag b s hc ht => ⟨fun hb => exec_no_station rfl rfl ht hb, fun i hb => ?_⟩,
    fun tag b s hc ht => ⟨fun hb => exec_no_station rfl rfl ht hb, fun i hb => ?_⟩⟩
  · have hc' : s.takeFromQueue.CausesHeld := hc
    have ignored (h : handleSuspend i s.takeFromQueue = s.takeFromQueue.refuse .ignored) :
        exec (.suspendStation tag [b]) s = .next (s.takeFromQueue.sends (replyFrame 0x08#8 tag .ignored [])) :=
      exec_station rfl rfl ht hb h
    refine ⟨fun hm => ignored (if_pos hm), fun hm hs => ?_, fun hm hs hr => ?_, fun hm hs hr => ignored ?_,
      fun hm hs hs' => ignored ?_⟩
    · exact exec_station rfl rfl ht hb (handleSuspend_evacuating hc' hm hs)
    · exact exec_station rfl rfl ht hb (handleSuspend_suspended (s := s.takeFromQueue) hm hs hr)
    · simp [handleSuspend, hm, hs, hr]
    · unfold handleSuspend
      simp only [State.takeFromQueue_link_mode, if_neg hm, State.takeFromQueue_station]
  · have hc' : s.takeFromQueue.CausesHeld := hc
    have refused {st : Status} (h : handleResume i s.takeFromQueue = s.takeFromQueue.refuse st) :
        exec (.resumeStation tag [b]) s = .next (s.takeFromQueue.sends (replyFrame 0x09#8 tag st [])) :=
      exec_station rfl rfl ht hb h
    refine ⟨fun hm => refused ?_, fun hm => refused ?_, fun hm hr => refused ?_, fun hm hr => ⟨fun ho => ?_, fun he hrb => ?_,
      fun he hrb => ?_⟩⟩
    · simp [handleResume, hm]
    · simp [handleResume, hm]
    · simp [handleResume, hm, hr]
    · exact exec_station rfl rfl ht hb (handleResume_held hc' hm hr ho)
    · refine exec_station (reply := .bare .done) rfl rfl ht hb ((handleResume_empties hc' hm he).trans ?_)
      rw [show s.takeFromQueue.receiverBlocks i = false from hrb]
      exact doneWith_set rfl (view_ne_of_causes fun e => Bool.noConfusion ((congrArg Causes.requested e).trans hr))
    · refine exec_station (reply := .bare .done) rfl rfl ht hb ((handleResume_empties hc' hm he).trans ?_)
      rw [show s.takeFromQueue.receiverBlocks i = true from hrb]
      exact doneWith_set rfl (view_ne_of_causes fun e => Bool.noConfusion ((congrArg Causes.requested e).trans hr))

/-! ### ABORT, LOCK, UNLOCK and RESET (2.10) -/

section requests
variable {s t : State} {i : StationNo}

/-- R46: a cycle ended by an anomaly: it is reported, and the station goes to RELEASING. -/
theorem releaseWith_eq (a : Anomaly) : s.releaseWith i a
    = (s.reportFrom (s.station i).unit a).setStation i
        { s.station i with state := .releasing, causes := .empty, phaseTimer := 0 } := by
  simp only [State.releaseWith, reportFrom_station, Station.toReleasing]

theorem handleAbort_running (h : (s.station i).state ∈ [StationState.piercing, .evacuating, .suspended, .holding]) :
    handleAbort i s = (((s.reportFrom (s.station i).unit .aborted).setStation i
      { s.station i with state := .releasing, causes := .empty, phaseTimer := 0 }).reports i, .bare .done) := by
  have hne : StationState.releasing ≠ (s.station i).state := by
    intro e; rw [← e] at h; revert h; decide
  have hd := doneWith_set (s := s) (t := s.releaseWith i .aborted) (i := i)
    (x := { s.station i with state := .releasing, causes := .empty, phaseTimer := 0 })
    (by rw [releaseWith_eq]; simp) (view_ne_of_state hne)
  unfold handleAbort
  rw [releaseWith_eq] at hd ⊢
  simp only [List.mem_cons, List.not_mem_nil, or_false] at h
  obtain h | h | h | h := h <;> simp only [h, hd]

/-- R53: the three roles of a station are those below 12 with its number. -/
theorem stationBound_iff : s.stationBound i = true
    ↔ ¬ ∃ r : RoleNo, r.val < 12 ∧ r.val % 4 = i.val ∧ (s.scanner.roles[r]).binding = none := by
  have hr (r : RoleNo) : r ∈ [roleStationFlow i, roleStationPressure i, roleStationPresence i]
      ↔ r.val < 12 ∧ r.val % 4 = i.val := by
    revert i r; decide
  simp only [State.stationBound, List.all_eq_true, hr, not_exists, not_and, Option.isSome_iff_ne_none, ne_eq, and_imp]

/-- R53: UNLOCK_STATION of a LOCKED station that may return to service. -/
theorem handleUnlock_done (h : (s.station i).state = .locked) (hb : s.link.mode = .offline ∨ s.stationBound i = true) :
    handleUnlock i s = (((s.setStation i { s.station i with state := .idle, latch := none }).arbiterPass).noteStations s.stations,
      .bare .done) := by
  have hcond : ¬ (decide (s.link.mode ≠ .offline) && !s.stationBound i) = true := by
    obtain hm | hb := hb
    · simp [hm]
    · simp [hb]
  rw [handleUnlock, if_pos h, if_neg hcond, doneWith, State.returnToService]

theorem handleUnlock_unbound (h : (s.station i).state = .locked) (hm : s.link.mode ≠ .offline)
    (hb : s.stationBound i = false) : handleUnlock i s = s.refuse .missingBinding := by
  rw [handleUnlock, if_pos h, if_pos (by simp [hm, hb])]

/-- R54: RESET_STATION of a FAULTED station. -/
theorem handleReset_done (h : (s.station i).state = .faulted) :
    handleReset i s = (((s.setStation i { s.station i with state := .idle, latch := none }).arbiterPass).noteStations s.stations,
      .bare .done) := by
  rw [handleReset, if_pos h, doneWith, State.returnToService]

end requests

/-- Settles O33, by the station's state. -/
theorem abortStationEndsTheCycle : Obligations.AbortStationEndsTheCycle := by
  refine fun tag b s ht => ⟨fun hb => exec_no_station rfl rfl ht hb, fun i hb => ⟨fun h => ?_, fun h => ?_⟩⟩
  · exact exec_station rfl rfl ht hb (handleAbort_running (s := s.takeFromQueue) h)
  · refine exec_station (reply := .bare .wrongState) (t := s.takeFromQueue) rfl rfl ht hb ?_
    simp only [List.mem_cons, List.not_mem_nil, or_false] at h
    unfold handleAbort
    obtain h | h | h | h | h | h := h <;> simp only [State.takeFromQueue_station, h] <;> rfl

/-- Settles O34, by the station's state. -/
theorem stationsAreLockedUnlockedAndReset : Obligations.StationsAreLockedUnlockedAndReset := by
  refine ⟨fun tag b i s hb => ⟨fun ht => ⟨fun h => ?_, fun h => ?_, fun h => ?_⟩, fun ht => ⟨fun h hm hu => ?_, fun h hu => ?_,
    fun h => ?_⟩⟩, fun tag b s hb => ⟨fun ht => exec_no_station rfl rfl ht hb, fun ht => exec_no_station rfl rfl ht hb⟩,
    fun tag b s ht => ⟨fun hb => exec_no_station rfl rfl ht hb, fun i hb => ⟨fun h => ?_, fun h => ?_⟩⟩⟩
  · refine exec_station (reply := .bare .done) rfl rfl ht hb ?_
    have hd := doneWith_set (s := s.takeFromQueue) (t := s.takeFromQueue.setStation i { s.station i with state := .locked })
      rfl (view_ne_of_state fun e => by obtain h | h := h <;> exact nomatch e.trans h)
    unfold handleLock
    obtain h | h := h <;> simp only [State.takeFromQueue_station, h, hd]
  · exact exec_station (reply := .bare .ignored) rfl rfl ht hb (by simp only [handleLock, State.takeFromQueue_station, h]; rfl)
  · refine exec_station (reply := .bare .wrongState) (t := s.takeFromQueue) rfl rfl ht hb ?_
    simp only [List.mem_cons, List.not_mem_nil, or_false, not_or] at h
    obtain ⟨hidle, hfaulted, hlocked⟩ := h
    unfold handleLock
    simp only [State.takeFromQueue_station]
    cases hx : (s.station i).state with
    | idle => exact absurd hx hidle
    | faulted => exact absurd hx hfaulted
    | locked => exact absurd hx hlocked
    | _ => rfl
  · exact exec_station rfl rfl ht hb (handleUnlock_unbound (s := s.takeFromQueue) h hm
      (Bool.eq_false_iff.mpr fun e => stationBound_iff.mp e hu))
  · exact exec_station rfl rfl ht hb (handleUnlock_done (s := s.takeFromQueue) h (hu.imp_right stationBound_iff.mpr))
  · exact exec_station (reply := .bare .wrongState) (t := s.takeFromQueue) rfl rfl ht hb (if_neg h)
  · exact exec_station rfl rfl ht hb (handleReset_done (s := s.takeFromQueue) h)
  · exact exec_station (reply := .bare .wrongState) (t := s.takeFromQueue) rfl rfl ht hb (if_neg h)

/-! ### The stations' timers (2.4 to 2.8) -/

section timers
variable {s t : State} {i : StationNo} {x : StationState} {act : State → State} {n : Nat}

theorem elapse_station (n : Nat) : (s.elapse n).station i = (s.station i).elapse n := by
  simp [State.elapse, State.station]

/-- The timed end of a station's state, no other date being due earlier: the missing ticks pass, and it acts. -/
theorem timedEnd_eq (hs : (s.station i).state = x) (hn : s.stationDue x - (s.station i).timer = n)
    (hm : s.mayPass n = true) :
    s.timedEnd i x act = (act (s.elapse n)).noteStations (s.elapse n).stations := by
  rw [State.timedEnd, if_pos hs, hn, State.atDate, if_pos hm]

/-- 2.5: the timer of a phase runs. -/
theorem elapse_phase {n : Nat} {st : Station} (h : st.state = .piercing ∨ st.state = .holding ∨ st.state = .releasing) :
    st.elapse n = { st with phaseTimer := st.phaseTimer + n } := by
  obtain h | h | h := h <;> simp only [Station.elapse, h]

/-- R31: what a timed end at one station makes of it is reported. -/
theorem timedEnd_reports {t : State} {y : Station} (hs : (s.station i).state = x)
    (hn : s.stationDue x - (s.station i).timer = n) (hm : s.mayPass n = true) (ht : act (s.elapse n) = t)
    (hset : t.stations = (s.elapse n).stations.set i y) (hy : y.state ≠ x) : s.timedEnd i x act = t.reports i := by
  rw [timedEnd_eq hs hn hm, ht]
  refine noteStations_set hset (view_ne_of_state ?_)
  rw [elapse_station, Station.elapse_state, hs]
  exact hy

theorem elapse_unit (n : Nat) (st : Station) : (st.elapse n).unit = st.unit := by
  unfold Station.elapse; split <;> rfl

/-- R46: the releasing end of a timed state. -/
theorem timedEnd_releases {a : Anomaly} (hs : (s.station i).state = x) (hn : s.stationDue x - (s.station i).timer = n)
    (hm : s.mayPass n = true) (hx : x ≠ .releasing) :
    s.timedEnd i x (fun t => t.releaseWith i a)
      = (((s.elapse n).reportFrom (s.station i).unit a).setStation i
          { (s.elapse n).station i with state := .releasing, causes := .empty, phaseTimer := 0 }).reports i := by
  refine timedEnd_reports hs hn hm ?_ (y := { (s.elapse n).station i with state := .releasing, causes := .empty, phaseTimer := 0 })
    (by simp) hx.symm
  rw [releaseWith_eq, elapse_station, elapse_unit]

/-- R36: what blocks a station's evacuation. -/
theorem blockers_eq : s.blockers (s.station i).family
    = ⟨false, s.receiverBlocks i, decide (s.link.mode = .tripped ∧ (s.station i).family = some Family.hydrocarbon)⟩ := by
  unfold State.blockers State.receiverBlocks
  cases (s.station i).family with
  | none => simp [Causes.empty]
  | some f => cases f <;> simp

theorem elapse_blockers (f : Option Family) : (s.elapse n).blockers f = s.blockers f := by
  cases f with
  | none => rfl
  | some f => cases f <;> rfl

theorem entryCheck_setStation (y : Station) :
    (s.setStation i y).entryCheck i = s.setStation i (y.enterEvacuation (s.blockers y.family)) := by
  simp [State.entryCheck]

theorem enterEvacuation_free {b : Causes} {st : Station} (hb : b = .empty) (hc : st.causes = .empty) :
    st.enterEvacuation b = { st with state := .evacuating } := by
  subst hb
  cases st; simp_all [Station.enterEvacuation, Causes.isEmpty]

theorem enterEvacuation_blocked {b : Causes} {st : Station} (hb : b ≠ .empty) (hc : st.causes = .empty)
    (hs : st.state ≠ .suspended) : st.enterEvacuation b = { st with state := .suspended, causes := b, suspElapsed := 0 } := by
  have hb' : b.isEmpty = false := decide_eq_false hb
  have hu : Causes.empty.union b = b := rfl
  rw [Station.enterEvacuation, hb', hc, hu, if_neg hs]
  rfl

end timers

section ends
variable {s : State} {i : StationNo}

/-- R35: the test at the end of the pierce time. -/
theorem pierceEnd_empty (h : (s.station i).latestPressure ≤ (s.timing.emptyThreshold : Int)) :
    s.pierceEnd i = s.releaseWith i .emptyCircuit := if_pos h

theorem pierceEnd_enters (h : (s.timing.emptyThreshold : Int) < (s.station i).latestPressure) :
    s.pierceEnd i = s.setStation i
      (({ s.station i with evacElapsed := 0 } : Station).enterEvacuation (s.blockers (s.station i).family)) := by
  rw [State.pierceEnd, if_neg (by omega), entryCheck_setStation]

/-- R39: the test at the end of the hold time. -/
theorem holdEnd_passed {rise : Int} (hr : (s.station i).latestPressure - (s.station i).holdStart = rise)
    (h : rise ≤ (s.timing.riseLimit : Int)) :
    s.holdEnd i = s.setStation i
      { s.station i with state := .releasing, causes := .empty, phaseTimer := 0, lastRise := some rise } := by
  subst hr
  simp [State.holdEnd, Int.not_lt.mpr h, Station.toReleasing]

theorem holdEnd_givenUp {rise : Int} (hr : (s.station i).latestPressure - (s.station i).holdStart = rise)
    (h : (s.timing.riseLimit : Int) < rise) (hc : 2 ≤ (s.station i).reevacuations) :
    s.holdEnd i = (s.reportFrom (s.station i).unit .residualRise).setStation i
      { s.station i with state := .releasing, causes := .empty, phaseTimer := 0, lastRise := some rise } := by
  subst hr
  have hset (o : Option Nat) (a : Anomaly) (y : Station) : (s.setStation i y).reportFrom o a = (s.reportFrom o a).setStation i y := by
    cases o <;> rfl
  simp [State.holdEnd, h, Nat.not_lt.mpr hc, releaseWith_eq, hset]

theorem holdEnd_again {rise : Int} (hr : (s.station i).latestPressure - (s.station i).holdStart = rise)
    (h : (s.timing.riseLimit : Int) < rise) (hc : (s.station i).reevacuations < 2) :
    s.holdEnd i = s.setStation i (({ s.station i with
      lastRise := some rise, reevacuations := (s.station i).reevacuations + 1, evacElapsed := 0 } : Station).enterEvacuation
        (s.blockers (s.station i).family)) := by
  subst hr
  simp [State.holdEnd, h, hc, entryCheck_setStation]

/-- R40, R9: the end of the release time hands the degas result to the unit. -/
theorem releaseEnd_eq : s.releaseEnd i = ({ s with tracker := { s.tracker with
      units := s.tracker.units.map fun u => if some u.tag = (s.station i).unit ∧ u.state = .degassing
        then { u with degas := some ((s.station i).result i s.now), state := .degassed } else u } } : State).setStation i
      { s.station i with state := .unloading } := by
  cases hu : (s.station i).unit with
  | none => simp [State.releaseEnd, hu]
  | some tag =>
    have hf (u : UnitRecord) : (if u.tag = tag then (if u.state = .degassing
          then { u with degas := some ((s.station i).result i s.now), state := .degassed } else u) else u)
        = if some u.tag = (s.station i).unit ∧ u.state = .degassing
          then { u with degas := some ((s.station i).result i s.now), state := .degassed } else u := by
      by_cases ht : u.tag = tag <;> simp [hu, ht]
    rw [State.releaseEnd]
    simp only [hu, State.handResult, State.modifyUnit, hf]
    simp only [← hu]
    rfl

end ends

/-- Settles O35: the two outcomes of the test, and the entry check. -/
theorem pierceTimeEndTestsTheCircuit : Obligations.PierceTimeEndTestsTheCircuit := by
  intro i s hc hs hm t
  have hcauses := causes_of_not_suspended hc (i := i) (by rw [hs]; exact fun e => nomatch e)
  have hdue : s.stationDue .piercing - (s.station i).timer = s.timing.pierceTime * 1000 - (s.station i).phaseTimer := by
    rw [Station.timer, hs]; rfl
  have hst : t.station i = { s.station i with phaseTimer := (s.station i).phaseTimer
      + (s.timing.pierceTime * 1000 - (s.station i).phaseTimer) } := by
    rw [elapse_station, elapse_phase (.inl hs)]
  have hblockers : t.blockers (t.station i).family = ⟨false, s.receiverBlocks i,
      decide (s.link.mode = .tripped ∧ (s.station i).family = some Family.hydrocarbon)⟩ := by
    rw [elapse_blockers, hst, blockers_eq]
  refine ⟨fun hp => ?_, fun hp => ⟨fun hb => ?_, fun hb => ?_⟩⟩
  · rw [exec_event rfl, timedEnd_reports hs hdue hm
      (y := { s.station i with state := .releasing, causes := .empty, phaseTimer := 0 })
      ((pierceEnd_empty (by rw [hst]; exact hp)).trans (by rw [releaseWith_eq, hst])) (by simp) (fun e => nomatch e)]
  · rw [exec_event rfl, timedEnd_reports hs hdue hm (y := { t.station i with state := .evacuating, evacElapsed := 0 })
      ((pierceEnd_enters (by rw [hst]; exact hp)).trans (congrArg (t.setStation i) ?_)) rfl (fun e => nomatch e)]
    rw [hblockers, enterEvacuation_free hb (by rw [hst]; exact hcauses)]
  · rw [exec_event rfl, timedEnd_reports hs hdue hm
      (y := { t.station i with state := .suspended, evacElapsed := 0, suspElapsed := 0, causes := ⟨false, s.receiverBlocks i,
        decide (s.link.mode = .tripped ∧ (s.station i).family = some Family.hydrocarbon)⟩ })
      ((pierceEnd_enters (by rw [hst]; exact hp)).trans (congrArg (t.setStation i) ?_)) rfl (fun e => nomatch e)]
    rw [hblockers, enterEvacuation_blocked hb (by rw [hst]; exact hcauses) (by rw [hst, hs]; exact fun e => nomatch e)]

/-- Settles O36: each timed end in its state. -/
theorem stationTimersEndPhases : Obligations.StationTimersEndPhases := by
  refine ⟨fun i s => ⟨fun hs hm => ?_, fun hs hm => ?_⟩, fun i s hs hm => ?_⟩
  · rw [exec_event rfl, timedEnd_releases hs (by rw [Station.timer, hs]; rfl) hm (fun e => nomatch e)]
  · rw [exec_event rfl, timedEnd_releases hs (by rw [Station.timer, hs]; rfl) hm (fun e => nomatch e)]
  · intro t result
    have hst : t.station i = { s.station i with phaseTimer := (s.station i).phaseTimer + (20000 - (s.station i).phaseTimer) } := by
      rw [elapse_station, elapse_phase (.inr (.inr hs))]
    have hresult : (t.station i).result i t.now = result := by rw [hst]; rfl
    have hunit : (t.station i).unit = (s.station i).unit := by rw [hst]
    rw [exec_event rfl, timedEnd_reports hs (by rw [Station.timer, hs]; rfl) hm (y := { t.station i with state := .unloading })
      (releaseEnd_eq (s := t)) rfl (fun e => nomatch e), hresult, hunit]
    rfl

/-- Settles O37: the three outcomes of the test, and the entry check. -/
theorem holdTimeEndTestsTheRise : Obligations.HoldTimeEndTestsTheRise := by
  intro i s hc hs hm t rise
  have hcauses := causes_of_not_suspended hc (i := i) (by rw [hs]; exact fun e => nomatch e)
  have hdue : s.stationDue .holding - (s.station i).timer = s.timing.holdTime * 10000 - (s.station i).phaseTimer := by
    rw [Station.timer, hs]; rfl
  have hst : t.station i = { s.station i with phaseTimer := (s.station i).phaseTimer
      + (s.timing.holdTime * 10000 - (s.station i).phaseTimer) } := by
    rw [elapse_station, elapse_phase (.inr (.inl hs))]
  have hrise : (t.station i).latestPressure - (t.station i).holdStart = rise := by rw [hst]
  have hre : (t.station i).reevacuations = (s.station i).reevacuations := by rw [hst]
  have hblockers : t.blockers (t.station i).family = ⟨false, s.receiverBlocks i,
      decide (s.link.mode = .tripped ∧ (s.station i).family = some Family.hydrocarbon)⟩ := by
    rw [elapse_blockers, hst, blockers_eq]
  refine ⟨fun hr => ?_, fun hr h2 => ?_, fun hr h2 => ?_⟩
  · rw [exec_event rfl, timedEnd_reports hs hdue hm
      (y := { s.station i with state := .releasing, causes := .empty, phaseTimer := 0, lastRise := some rise })
      ((holdEnd_passed hrise hr).trans (by rw [hst])) rfl (fun e => nomatch e)]
  · rw [exec_event rfl, timedEnd_reports hs hdue hm
      (y := { s.station i with state := .releasing, causes := .empty, phaseTimer := 0, lastRise := some rise })
      ((holdEnd_givenUp hrise hr (by rw [hre]; exact h2)).trans (by rw [hst]))
      (by rw [State.setStation_stations, reportFrom_stations]) (fun e => nomatch e)]
  · have hagain := holdEnd_again hrise hr (by rw [hre]; exact h2)
    rw [hblockers, hre] at hagain
    refine ⟨fun hb => ?_, fun hb => ?_⟩
    · rw [enterEvacuation_free hb (by rw [hst]; exact hcauses)] at hagain
      rw [exec_event rfl, timedEnd_reports hs hdue hm hagain rfl (fun e => nomatch e)]
    · rw [enterEvacuation_blocked hb (by rw [hst]; exact hcauses) (by rw [hst, hs]; exact fun e => nomatch e)] at hagain
      rw [exec_event rfl, timedEnd_reports hs hdue hm hagain rfl (fun e => nomatch e)]

end Sys2Proof.Proofs.Stations

/-! # Publication, and the scanner requests (8.1 to 8.6, 9.1) -/

namespace Sys2Proof.Proofs.Scanning
open Sys2Proof Sys2Proof.Machine Sys2Proof.Proofs.Frames Sys2Proof.Proofs.Steps Sys2Proof.Proofs.Requests
open Sys2Proof.Proofs.Fields Sys2Proof.Proofs.Tables Sys2Proof.Proofs.Clockwork
open Sys2Proof.Proofs.SampleRequests (indicatorAt_here indicatorAt_skip)

set_option Elab.async false

/-! ### Publication (8.4, 8.5) -/

section publication
variable {c : Scanner} {limit : Nat} {cells : Vector PublishedCell 48} {r : RoleRecord} {i : CellNo}

theorem getElem_ofFn {α : Type} {n : Nat} (f : Fin n → α) (i : Fin n) : (Vector.ofFn f)[i] = f i := by simp

theorem judge_absent (h : r.binding = none) : r.judge limit cells = (⟨.absent, 0⟩, r) := by simp [RoleRecord.judge, h]

theorem judge_fresh (h : r.binding = some i) (hm : cells[i].mark = .fresh) :
    r.judge limit cells
      = (⟨.valid, cells[i].value⟩, { r with hasBeenValid := true, lastValid := cells[i].value, holdCount := 0 }) := by
  simp only [RoleRecord.judge, h, hm, if_true]

theorem judge_never (h : r.binding = some i) (hm : cells[i].mark ≠ .fresh) (hv : r.hasBeenValid = false) :
    r.judge limit cells = (⟨.lost, 0⟩, r) := by
  simp only [RoleRecord.judge, h, hm, hv, if_false, Bool.not_false, if_true]

/-- R164: a role that has been VALID is held while its count is within the limit. -/
theorem judge_carried (h : r.binding = some i) (hm : cells[i].mark ≠ .fresh) (hv : r.hasBeenValid = true) :
    r.judge limit cells
      = (let n := if cells[i].mark = .heldFromMiss then min (r.holdCount + 1) 256 else r.holdCount
        (if n ≤ limit then ⟨.held, r.lastValid⟩ else ⟨.lost, 0⟩, { r with holdCount := n })) := by
  by_cases hc : cells[i].mark = .heldFromMiss
  · simp only [RoleRecord.judge, RoleRecord.carried, h, hm, hv, hc, if_false, if_true, Bool.not_true, Bool.false_eq_true]
    rw [← h, ← hv]
    rfl
  · simp only [RoleRecord.judge, RoleRecord.carried, h, hm, hv, hc, if_false, Bool.not_true, Bool.false_eq_true]
    rw [← h, ← hv]

end publication

/-- Settles O56: a role's reading and record are the judgement over the published cells, row by row. -/
theorem publicationMarksAndJudges : Obligations.PublicationMarksAndJudges := by
  intro elapsed s
  refine ⟨s.scanner.scan elapsed s.now, rfl, rfl, rfl, rfl, rfl, rfl, rfl, fun i => ?_, fun r => ?_⟩
  · rw [Scanner.scan, Scanner.publishedCells, getElem_ofFn, markOf]
    simp
  · have hrole : (s.scanner.scan elapsed s.now).role r
        = ((s.scanner.roles[r]).judge s.scanner.holdLimit (s.scanner.scan elapsed s.now).cells).1 := by
      rw [Scan.role, Scanner.scan, getElem_ofFn]
    have hnew : (s.publish elapsed).scanner.roles[r]
        = ((s.scanner.roles[r]).judge s.scanner.holdLimit (s.scanner.scan elapsed s.now).cells).2 := by
      rw [State.publish, Scanner.afterPublication, getElem_ofFn]
    generalize s.scanner.scan elapsed s.now = x at hrole hnew ⊢
    rw [hnew, hrole]
    refine ⟨fun h => ?_, fun i h => ⟨fun hm => ?_, fun hm hv => ?_, fun hm hv => ?_⟩⟩
    · rw [judge_absent h]; exact ⟨rfl, rfl⟩
    · rw [judge_fresh h hm]; exact ⟨rfl, rfl⟩
    · rw [judge_never h hm hv]; exact ⟨rfl, rfl⟩
    · rw [judge_carried h hm hv]; exact ⟨rfl, rfl⟩

/-! ### The Sample Stream (9.1 to 9.4) -/

section sample
variable {s : State} {x : Scan}

theorem mem_sampleEntries {set : BitVec 48} {e : SampleEntry} : e ∈ sampleEntries set x
    ↔ set.getLsbD e.cell.val = true ∧ e = ⟨x.sequence, e.cell, x.cells[e.cell].mark, x.cells[e.cell].value⟩ := by
  simp only [sampleEntries, cellsOf, List.mem_map, List.mem_filter, List.mem_finRange, true_and]
  constructor
  · rintro ⟨i, hi, rfl⟩
    exact ⟨hi, rfl⟩
  · rintro ⟨hset, he⟩
    exact ⟨e.cell, hset, he.symm⟩

/-- R175: the entries come in ascending cell order. -/
theorem sampleEntries_ascending (set : BitVec 48) : (sampleEntries set x).Pairwise fun a b => a.cell.val < b.cell.val := by
  rw [sampleEntries, List.pairwise_map]
  exact (List.pairwise_lt_finRange 48).filter _

theorem writeScan_nothing (h : s.sample.enable = false ∨ sampleEntries s.sample.set x = []) : s.writeScan x = s := by
  refine if_pos ?_
  obtain h | h := h <;> simp [h]

theorem writeScan_overflow (he : s.sample.enable = true) (hn : sampleEntries s.sample.set x ≠ [])
    (h : 4096 < s.sample.fifo.length + (sampleEntries s.sample.set x).length) :
    s.writeScan x = s.setFlag .sampleOverflow := by
  have hempty : ¬ (!s.sample.enable || (sampleEntries s.sample.set x).isEmpty) = true := by simp [he, hn]
  rw [State.writeScan, if_neg hempty, if_neg (Nat.not_le.mpr h : ¬ _ ≤ Config.sampleFifoSize)]

/-- R175, R176: the entries appended, and the threshold test. -/
theorem writeScan_written (he : s.sample.enable = true) (hn : sampleEntries s.sample.set x ≠ [])
    (h : s.sample.fifo.length + (sampleEntries s.sample.set x).length ≤ 4096) :
    s.writeScan x = (s.setSample { s.sample with fifo := s.sample.fifo ++ sampleEntries s.sample.set x }).testThreshold
      x.sequence := by
  have hempty : ¬ (!s.sample.enable || (sampleEntries s.sample.set x).isEmpty) = true := by simp [he, hn]
  have hroom : s.sample.fifo.length + (sampleEntries s.sample.set x).length ≤ Config.sampleFifoSize := h
  rw [State.writeScan, if_neg hempty, if_pos hroom]

/-- R176: the threshold passed while armed. -/
theorem testThreshold_passed {n : Nat} (h : s.sample.armed = true ∧ s.sample.threshold < s.sample.fifo.length) :
    s.testThreshold n = (s.setSample { s.sample with armed := false }).raise
      (.sampleThreshold n s.sample.fifo.length s.sample.threshold) := if_pos (by simpa using h)

theorem testThreshold_kept {n : Nat} (h : ¬ (s.sample.armed = true ∧ s.sample.threshold < s.sample.fifo.length)) :
    s.testThreshold n = s := if_neg (by simpa using h)

theorem writeScan_passed (he : s.sample.enable = true) (hn : sampleEntries s.sample.set x ≠ [])
    (h : s.sample.fifo.length + (sampleEntries s.sample.set x).length ≤ 4096)
    (hp : s.sample.armed = true
      ∧ s.sample.threshold < s.sample.fifo.length + (sampleEntries s.sample.set x).length) :
    s.writeScan x = (s.setSample { s.sample with fifo := s.sample.fifo ++ sampleEntries s.sample.set x, armed := false }).raise
      (.sampleThreshold x.sequence (s.sample.fifo.length + (sampleEntries s.sample.set x).length) s.sample.threshold) := by
  rw [writeScan_written he hn h, testThreshold_passed (by rw [← List.length_append] at hp; exact hp)]
  simp only [State.setSample_sample, List.length_append]
  rfl

theorem writeScan_kept (he : s.sample.enable = true) (hn : sampleEntries s.sample.set x ≠ [])
    (h : s.sample.fifo.length + (sampleEntries s.sample.set x).length ≤ 4096)
    (hp : ¬ (s.sample.armed = true
      ∧ s.sample.threshold < s.sample.fifo.length + (sampleEntries s.sample.set x).length)) :
    s.writeScan x = s.setSample { s.sample with fifo := s.sample.fifo ++ sampleEntries s.sample.set x } := by
  rw [writeScan_written he hn h, testThreshold_kept (by rw [← List.length_append] at hp; exact hp)]

theorem arbitrate_setFlags_notices (l : Link) (fl : ReadFlags) : ({ l with flags := fl } : Link).arbitrate.notices = l.arbitrate.notices := by
  obtain ⟨mode, rx, requests, reply, notices, enables, flags, sending⟩ := l
  cases sending with
  | some f => rfl
  | none =>
    cases reply with
    | some f => rfl
    | none => cases notices <;> rfl

end sample

/-- A consumer that has a scan to take acts on it, and the outputs and the line settle. -/
theorem exec_taken {i : Instr} {c : Consumer} {act : Scan → State → State} {x : Scan} {s : State}
    (e : eventOf i = some (taken c act)) (h : scanFor c s.toTake = some x) :
    exec i s = .next (act x (s.taking c)).settle := by
  rw [exec_event e, taken, h]

/-- Settles O59, by the room in the FIFO and the threshold. -/
theorem sampleScanIsWrittenWhole : Obligations.SampleScanIsWrittenWhole := by
  intro x s hx
  refine ⟨sampleEntries s.sample.set x, fun e => mem_sampleEntries, sampleEntries_ascending _, fun h => ?_, fun he h hn => ?_,
    fun he hn h => ?_⟩
  · rw [exec_taken rfl hx, writeScan_nothing (s := s.taking .sampleStream) h]
  · refine ⟨_, exec_taken rfl hx, ?_⟩
    rw [writeScan_overflow (s := s.taking .sampleStream) he hn h]
    exact ⟨rfl, by simp [State.setFlag, ReadFlags.set], arbitrate_setFlags_notices _ _, rfl⟩
  · intro held passes kept
    rw [exec_taken rfl hx]
    by_cases hp : s.sample.armed = true ∧ s.sample.threshold < held
    · have hpass : passes = true := decide_eq_true hp
      rw [writeScan_passed (s := s.taking .sampleStream) he hn h hp, if_pos hpass]
      simp only [kept, hpass, Bool.not_true, Bool.and_false]
      rfl
    · have hpass : passes = false := decide_eq_false hp
      rw [writeScan_kept (s := s.taking .sampleStream) he hn h hp, if_neg (Bool.eq_false_iff.mp hpass)]
      simp only [kept, hpass, Bool.not_false, Bool.and_true]
      rfl

/-! ### The divisor, the slots and the bindings (8.1 to 8.5) -/

section requests

theorem readDivisor_bytes {n : Nat} (h : n < 2 ^ 32) : readDivisor (leBytes 4 n) = some n := by
  rw [readDivisor, ofLength_eq (by simp), field_last, show (256 : Nat) ^ 4 = 2 ^ 32 from rfl, Nat.mod_eq_of_lt h]

theorem cell_lt (o : Option CellNo) : ∀ k, o.map (·.val) = some k → k < 256 ^ 1 := by
  intro k hk
  obtain ⟨g, -, rfl⟩ := Option.map_eq_some_iff.mp hk
  omega

theorem readBinding_bytes (r : RoleNo) (cell : Option CellNo) :
    readBinding (leBytes 1 r.val ++ optional 1 (cell.map (·.val))) = some (r, cell.map (·.val)) := by
  rw [readBinding, ofLength_eq (by simp), field_here, Nat.mod_eq_of_lt (by omega), numbered_val,
    optionalAt_skip (by simp), leBytes_length, optionalAt_last _ (cell_lt cell)]

theorem bindingOf_cell (cell : Option CellNo) : bindingOf (cell.map (·.val)) = some cell := by
  cases cell <;> simp [bindingOf, numbered_val]

theorem readSlot_bytes {o : SlotOperands} (h1 : o.slot < 256) (h2 : o.address < 256) (h3 : o.firstValue < 256)
    (h4 : o.count < 256) : readSlot o.bytes = some o := by
  rw [readSlot, ofLength_eq (by simp [SlotOperands.bytes])]
  simp (disch := simp [-indicator_length, length_indicator]) only [SlotOperands.bytes, List.append_assoc, indicatorAt_skip,
    indicatorAt_here, field_skip, field_here, field_last, leBytes_length, indicator_length, Nat.reduceSub, Nat.pow_one,
    Option.map_some]
  rw [Nat.mod_eq_of_lt h1, Nat.mod_eq_of_lt h2, Nat.mod_eq_of_lt h3, Nat.mod_eq_of_lt h4]

end requests

/-! ### The next free cell (8.3) -/

section cells
variable {slots : Vector Slot 12} {n m : SlotNo}

theorem foldl_ends_le {l : List Slot} {m c : Nat} (hm : m ≤ c)
    (h : ∀ x ∈ l, ∀ a, x.allocation = some a → a.first + a.granted ≤ c) :
    l.foldl (fun m x => match x.allocation with
      | none => m
      | some a => max m (a.first + a.granted)) m ≤ c := by
  induction l generalizing m with
  | nil => exact hm
  | cons y l ih =>
    rw [List.foldl_cons]
    have hy := h y List.mem_cons_self
    refine ih ?_ fun x hx => h x (List.mem_cons_of_mem _ hx)
    split
    · exact hm
    · rename_i a ha; exact Nat.max_le.mpr ⟨hm, hy a ha⟩

/-- R157: the next free cell is the least that no allocation reaches beyond. -/
theorem nextFreeCell_le_iff {c : Nat} : nextFreeCell slots ≤ c
    ↔ ∀ (m : SlotNo) (a : Allocation), slots[m].allocation = some a → a.first + a.granted ≤ c := by
  refine ⟨fun h m a ha => Nat.le_trans (end_le_nextFreeCell ha) h, fun h => foldl_ends_le (Nat.zero_le _) fun x hx a ha => ?_⟩
  obtain ⟨k, hk, rfl⟩ := List.mem_iff_getElem.mp hx
  exact h ⟨k, by simpa using hk⟩ a (by simpa using ha)

/-- R157: it is 0, or the end of an allocation. -/
theorem nextFreeCell_attained : nextFreeCell slots = 0
    ∨ ∃ (m : SlotNo) (a : Allocation), slots[m].allocation = some a ∧ a.first + a.granted = nextFreeCell slots := by
  refine Classical.byContradiction fun hno => ?_
  obtain ⟨hpos, hends⟩ := not_or.mp hno
  have hle : nextFreeCell slots ≤ nextFreeCell slots - 1 := nextFreeCell_le_iff.mpr fun m a ha => by
    have hend := end_le_nextFreeCell ha
    have hne : a.first + a.granted ≠ nextFreeCell slots := fun e => hends ⟨m, a, ha, e⟩
    omega
  omega

theorem nextFreeCell_congr {slots' : Vector Slot 12} (h : ∀ m : SlotNo, slots'[m].allocation = slots[m].allocation) :
    nextFreeCell slots' = nextFreeCell slots :=
  Nat.le_antisymm (nextFreeCell_le_iff.mpr fun m a ha => end_le_nextFreeCell ((h m).symm.trans ha))
    (nextFreeCell_le_iff.mpr fun m a ha => end_le_nextFreeCell ((h m).trans ha))

end cells

/-! ### SET_SCAN_SLOT (8.2, 8.3) -/

section slots
variable {slots : Vector Slot 12} {n m : SlotNo} {o : SlotOperands}

theorem inRange_iff (o : SlotOperands) :
    o.inRange = true ↔ 1 ≤ o.address ∧ o.address ≤ 31 ∧ 1 ≤ o.count ∧ o.count ≤ 8 ∧ o.firstValue + o.count ≤ 256 := by
  simp only [SlotOperands.inRange, Bool.and_eq_true, decide_eq_true_eq]
  omega

theorem short_iff (x : Slot) (h : 1 ≤ x.count) : x.short = decide ((x.allocation.map (·.granted)).getD 0 < x.count) := by
  unfold Slot.short
  cases x.allocation with
  | none => simp; omega
  | some a => simp

/-- R158: with no slot enabled every allocation is cleared; else the slot written is allocated. -/
theorem rewriteSlot_eq (o : SlotOperands) : rewriteSlot n o slots
    = (let defined := slots.set n (o.define slots[n])
      let allocated := if (o.enabled = true ∨ ∃ m : SlotNo, m ≠ n ∧ slots[m].enabled = true) then allocateSlot defined n
        else clearAllocations defined
      allocated.set n allocated[n].written) := by
  have hall : ((slots.set n (o.define slots[n])).toList.all fun x => !x.enabled) = true
      ↔ ¬ (o.enabled = true ∨ ∃ m : SlotNo, m ≠ n ∧ slots[m].enabled = true) := by
    have hmem : ((slots.set n (o.define slots[n])).toList.all fun x => !x.enabled) = true
        ↔ ∀ m : SlotNo, (slots.set n (o.define slots[n]))[m].enabled = false := by
      rw [List.all_eq_true]
      refine ⟨fun h m => by simpa using h _ (Vector.mem_toList_iff.mpr (Vector.getElem_mem m.isLt)), fun h x hx => ?_⟩
      obtain ⟨k, hk, rfl⟩ := List.mem_iff_getElem.mp hx
      simpa using h ⟨k, by simpa using hk⟩
    rw [hmem]
    constructor
    · rintro h (ho | ⟨m, hm, he⟩)
      · have hn := h n
        rw [getElem_set_slot, if_pos rfl] at hn
        exact absurd (hn.symm.trans ho) (by simp)
      · have hn := h m
        rw [getElem_set_slot, if_neg (Ne.symm hm)] at hn
        exact absurd (hn.symm.trans he) (by simp)
    · intro h m
      rw [not_or, not_exists] at h
      rw [getElem_set_slot]
      split
      · exact Bool.eq_false_iff.mpr h.1
      · rename_i hm
        exact Bool.eq_false_iff.mpr fun he => h.2 m ⟨Ne.symm hm, he⟩
  unfold rewriteSlot
  by_cases h : o.enabled = true ∨ ∃ m : SlotNo, m ≠ n ∧ slots[m].enabled = true
  · have hf : ((slots.set n (o.define slots[n])).toList.all fun x => !x.enabled) = false :=
      Bool.eq_false_iff.mpr fun e => hall.mp e h
    simp only [hf, if_pos h, Bool.false_eq_true, if_false]
  · simp only [hall.mpr h, if_neg h, if_true]

theorem allocateSlot_ne (h : n ≠ m) : (allocateSlot slots n)[m] = slots[m] := by
  unfold allocateSlot
  split
  · rw [getElem_set_slot, if_neg h]
  · rfl

/-- R157: what an enabled slot without an allocation is given. -/
theorem allocateSlot_given (he : slots[n].enabled = true) (ha : slots[n].allocation = none) :
    (allocateSlot slots n)[n]
      = { slots[n] with allocation := allocateAt (nextFreeCell slots) slots[n].count } := by
  have h : (slots[n].enabled && slots[n].allocation.isNone) = true := by rw [he, ha]; rfl
  rw [allocateSlot, if_pos h, getElem_set_slot, if_pos rfl]

theorem allocateSlot_kept (h : slots[n].enabled = false ∨ slots[n].allocation ≠ none) : allocateSlot slots n = slots := by
  refine if_neg ?_
  rw [Bool.and_eq_true, Option.isNone_iff_eq_none]
  rintro ⟨he, ha⟩
  obtain h | h := h
  · rw [he] at h; cases h
  · exact h ha

theorem clearAllocations_get (m : SlotNo) : (clearAllocations slots)[m] = { slots[m] with allocation := none } := by
  rw [clearAllocations, getElem_ofFn]

/-- Whatever it is given, the slot allocated keeps its definition. -/
theorem allocateSlot_definition : ∃ a, (allocateSlot slots n)[n] = { slots[n] with allocation := a } := by
  unfold allocateSlot
  split
  · exact ⟨_, by rw [getElem_set_slot, if_pos rfl]⟩
  · exact ⟨slots[n].allocation, rfl⟩

/-- What a write gives the slot: its definition and the status of its allocation. -/
theorem rewriteSlot_defined (o : SlotOperands) (h : 1 ≤ o.count) : ∃ a, (rewriteSlot n o slots)[n]
    = ⟨o.enabled, o.address, o.firstValue, o.count, 0,
        if o.enabled = true ∧ (a.map (·.granted)).getD 0 < o.count then .truncated else .fresh, a⟩ := by
  have hset : (slots.set n (o.define slots[n]))[n] = o.define slots[n] := by rw [getElem_set_slot, if_pos rfl]
  have hwritten (a : Option Allocation) : ({ o.define slots[n] with allocation := a } : Slot).written
      = ⟨o.enabled, o.address, o.firstValue, o.count, 0,
        if o.enabled = true ∧ (a.map (·.granted)).getD 0 < o.count then .truncated else .fresh, a⟩ := by
    have hstatus : (if o.enabled && decide ((a.map (·.granted)).getD 0 < o.count) then SlotStatus.truncated else .fresh)
        = if o.enabled = true ∧ (a.map (·.granted)).getD 0 < o.count then .truncated else .fresh :=
      ite_congr (propext (by rw [Bool.and_eq_true, decide_eq_true_eq])) (fun _ => rfl) fun _ => rfl
    rw [← hstatus, Slot.written, short_iff _ h]
    rfl
  rw [rewriteSlot_eq]
  dsimp only
  rw [getElem_set_slot, if_pos rfl]
  split
  · obtain ⟨a, ha⟩ := allocateSlot_definition (slots := slots.set n (o.define slots[n])) (n := n)
    exact ⟨a, by rw [ha, hset, hwritten]⟩
  · exact ⟨none, by rw [clearAllocations_get, hset, hwritten]⟩

theorem rewriteSlot_ne (o : SlotOperands) (hm : m ≠ n) (h : o.enabled = true ∨ ∃ m : SlotNo, m ≠ n ∧ slots[m].enabled = true) :
    (rewriteSlot n o slots)[m] = slots[m] := by
  rw [rewriteSlot_eq]
  dsimp only
  rw [if_pos h, getElem_set_slot, if_neg (Ne.symm hm), allocateSlot_ne (Ne.symm hm), getElem_set_slot, if_neg (Ne.symm hm)]

theorem rewriteSlot_allocation (o : SlotOperands) (h : o.enabled = true ∨ ∃ m : SlotNo, m ≠ n ∧ slots[m].enabled = true) :
    (rewriteSlot n o slots)[n].allocation = (allocateSlot (slots.set n (o.define slots[n])) n)[n].allocation := by
  rw [rewriteSlot_eq]
  dsimp only
  rw [if_pos h, getElem_set_slot, if_pos rfl]
  rfl

theorem rewriteSlot_cleared (o : SlotOperands) (h : ¬ (o.enabled = true ∨ ∃ m : SlotNo, m ≠ n ∧ slots[m].enabled = true)) :
    (rewriteSlot n o slots)[m].allocation = none
      ∧ (m ≠ n → (rewriteSlot n o slots)[m] = { slots[m] with allocation := none }) := by
  rw [rewriteSlot_eq]
  dsimp only
  rw [if_neg h, getElem_set_slot]
  split
  · rename_i hm
    subst hm
    exact ⟨by rw [clearAllocations_get]; rfl, fun hne => absurd rfl hne⟩
  · rename_i hm
    exact ⟨by rw [clearAllocations_get], fun _ => by rw [clearAllocations_get, getElem_set_slot, if_neg hm]⟩

theorem set_define_allocation (o : SlotOperands) (m : SlotNo) :
    (slots.set n (o.define slots[n]))[m].allocation = slots[m].allocation := by
  rw [getElem_set_slot]
  split
  · rename_i h; subst h; rfl
  · rfl

end slots

/-- Settles O58: the slot is defined, allocated or cleared, and given the status of its allocation. -/
theorem slotWritesAllocateCells : Obligations.SlotWritesAllocateCells := by
  intro tag o s ht h1 h2 h3 h4 inRange
  have hread := readSlot_bytes h1 h2 h3 h4
  refine ⟨fun hr => ?_, fun n hn hr => ?_⟩
  · refine exec_reading (t := s.takeFromQueue) (reply := .bare .outOfRange) rfl rfl ht hread ?_
    unfold handleSetSlot
    by_cases hslot : o.slot < 12
    · have hi : o.inRange = false := Bool.eq_false_iff.mpr fun e => hr ⟨by omega, (inRange_iff o).mp e⟩
      simp only [numbered, hslot, dif_pos, hi, Bool.false_eq_true, if_false]
      rfl
    · simp only [numbered, hslot, dif_neg, not_false_eq_true]
      rfl
  · obtain ⟨-, hrange⟩ := hr
    have hhandled : handleSetSlot o s.takeFromQueue = (s.takeFromQueue.setScanner { s.scanner with
        slots := rewriteSlot n o s.scanner.slots, settlingRemaining := s.scanner.settlingCount },
        ⟨.done, slotBytes n (rewriteSlot n o s.scanner.slots)[n]⟩) := by
      unfold handleSetSlot
      simp only [hn, numbered_val, (inRange_iff o).mpr hrange, if_true]
      rfl
    obtain ⟨-, -, hcount, -⟩ := hrange
    obtain ⟨a, ha⟩ := rewriteSlot_defined (slots := s.scanner.slots) (n := n) o hcount
    refine ⟨rewriteSlot n o s.scanner.slots, exec_reading rfl rfl ht hread hhandled, ?_⟩
    refine ⟨by rw [ha], by rw [ha], by rw [ha], by rw [ha], by rw [ha], by rw [ha], fun hany => ⟨fun m hm => ?_, fun hk => ?_,
      fun he hnone => ?_⟩, fun he hother m => ?_⟩
    · exact rewriteSlot_ne o hm hany
    · rw [rewriteSlot_allocation o hany, allocateSlot_kept ?_, set_define_allocation]
      rw [set_define_allocation, getElem_set_slot, if_pos rfl]
      exact hk
    · have hends := set_define_allocation (slots := s.scanner.slots) (n := n) o
      refine ⟨nextFreeCell s.scanner.slots, fun m a ha => end_le_nextFreeCell ha, nextFreeCell_attained, ?_⟩
      rw [rewriteSlot_allocation o hany, allocateSlot_given (by rw [getElem_set_slot, if_pos rfl]; exact he)
        ((hends n).trans hnone), nextFreeCell_congr hends, getElem_set_slot, if_pos rfl]
      rfl
    · refine rewriteSlot_cleared o ?_
      rintro (h | ⟨k, hk, hke⟩)
      · rw [he] at h; cases h
      · rw [hother k hk] at hke; cases hke

/-! ### SET_SCAN_DIVISOR, SCANNER_RESET and BIND_SIGNAL (8.1, 8.5, 8.6) -/

section reset
variable {slots : Vector Slot 12}

/-- The cells that the enabled slots of a list ask for. -/
def asked (slots : Vector Slot 12) (l : List SlotNo) : Nat :=
  ((l.filter fun m => slots[m].enabled).map fun m => slots[m].count).sum

theorem asked_append (l : List SlotNo) (n : SlotNo) :
    asked slots (l ++ [n]) = asked slots l + if slots[n].enabled then slots[n].count else 0 := by
  rw [asked, asked, List.filter_append, List.map_append, List.sum_append]
  cases h : slots[n].enabled <;> simp only [List.filter_cons, List.filter_nil, h] <;> rfl

/-- R167: the slots after the allocation rule has been applied to those of a list, from none allocated. -/
def allocated (slots : Vector Slot 12) (l : List SlotNo) : Vector Slot 12 := l.foldl allocateSlot (clearAllocations slots)

theorem allocated_append (l : List SlotNo) (n : SlotNo) :
    allocated slots (l ++ [n]) = allocateSlot (allocated slots l) n := by
  rw [allocated, List.foldl_append]; rfl

theorem allocateAt_min (a count : Nat) :
    allocateAt (min 48 a) count = if a < 48 then some ⟨a, min count (48 - a)⟩ else none := by
  unfold allocateAt
  by_cases h : a < 48
  · rw [Nat.min_eq_right (by omega), if_pos h]
  · rw [Nat.min_eq_left (by omega), if_neg h, if_neg (by omega)]

/-- A list is built from its end: the reallocation gives the slots their cells in this order. -/
theorem snocInduction {α : Type} {P : List α → Prop} (l : List α) (nil : P []) (snoc : ∀ l a, P l → P (l ++ [a])) : P l := by
  rw [← List.reverse_reverse l]
  induction l.reverse with
  | nil => exact nil
  | cons a l ih => rw [List.reverse_cons]; exact snoc _ a ih

theorem allocated_not_mem {l : List SlotNo} {k : SlotNo} (h : k ∉ l) :
    (allocated slots l)[k] = { slots[k] with allocation := none } := by
  induction l using snocInduction with
  | nil => exact clearAllocations_get k
  | snoc l n ih =>
    rw [List.mem_append, List.mem_singleton, not_or] at h
    rw [allocated_append, allocateSlot_ne (Ne.symm h.2), ih h.1]

theorem nextFreeCell_set {n : SlotNo} {x : Slot} {a : Allocation} (hnone : slots[n].allocation = none)
    (hx : x.allocation = some a) (ha : nextFreeCell slots ≤ a.first) :
    nextFreeCell (slots.set n x) = a.first + a.granted := by
  refine Nat.le_antisymm (nextFreeCell_le_iff.mpr fun m b hb => ?_) (end_le_nextFreeCell (n := n) ?_)
  · rw [getElem_set_slot] at hb
    split at hb
    · rw [hx, Option.some.injEq] at hb; exact Nat.le_of_eq (by rw [hb])
    · have := end_le_nextFreeCell hb; omega
  · rw [getElem_set_slot, if_pos rfl, hx]

/-- R157, R167: the next free cell is the number of cells asked for so far, up to 48. -/
theorem nextFreeCell_allocated {l : List SlotNo} (h : l.Nodup) : nextFreeCell (allocated slots l) = min 48 (asked slots l) := by
  induction l using snocInduction with
  | nil =>
    have hzero : nextFreeCell (allocated slots []) ≤ 0 := nextFreeCell_le_iff.mpr fun m a ha => by
      rw [allocated_not_mem List.not_mem_nil] at ha; cases ha
    rw [Nat.le_zero.mp hzero]; rfl
  | snoc l n ih =>
    obtain ⟨hl, -, hn⟩ := List.nodup_append.mp h
    have hfresh : (allocated slots l)[n] = { slots[n] with allocation := none } :=
      allocated_not_mem fun hm => hn n hm n (List.mem_singleton_self n) rfl
    rw [allocated_append, asked_append]
    cases he : slots[n].enabled
    · rw [allocateSlot_kept (.inl (by rw [hfresh]; exact he)), ih hl]
      rfl
    · have hgiven : (allocateSlot (allocated slots l) n) = (allocated slots l).set n
          { (allocated slots l)[n] with
            allocation := allocateAt (nextFreeCell (allocated slots l)) (allocated slots l)[n].count } :=
        if_pos (by rw [hfresh]; simpa using he)
      rw [hgiven, ih hl, if_pos rfl]
      by_cases hroom : asked slots l < 48
      · rw [nextFreeCell_set (a := ⟨asked slots l, min slots[n].count (48 - asked slots l)⟩) (by rw [hfresh])
          (by rw [allocateAt_min, if_pos hroom, hfresh]) (by rw [ih hl]; exact Nat.min_le_right _ _)]
        dsimp only
        omega
      · rw [nextFreeCell_congr (slots := allocated slots l) fun m => ?_, ih hl]
        · omega
        · rw [getElem_set_slot]
          split
          · rename_i hm
            subst hm
            rw [allocateAt_min, if_neg hroom, hfresh]
          · rfl

/-- R167: each enabled slot of the list is given the cells after those that the slots before it ask for. -/
theorem allocated_mem {before after : List SlotNo} {n : SlotNo} (h : (before ++ n :: after).Nodup) :
    (allocated slots (before ++ n :: after))[n] = { slots[n] with
      allocation := if slots[n].enabled = true then
          (if asked slots before < 48 then some ⟨asked slots before, min slots[n].count (48 - asked slots before)⟩ else none)
        else none } := by
  obtain ⟨hb, hna, hdisjoint⟩ := List.nodup_append.mp h
  obtain ⟨hn, -⟩ := List.nodup_cons.mp hna
  have hfresh : (allocated slots before)[n] = { slots[n] with allocation := none } :=
    allocated_not_mem fun hm => hdisjoint n hm n List.mem_cons_self rfl
  have hrest (l : List SlotNo) (u : Vector Slot 12) (hl : n ∉ l) : (l.foldl allocateSlot u)[n] = u[n] := by
    induction l generalizing u with
    | nil => rfl
    | cons k l ih =>
      rw [List.mem_cons, not_or] at hl
      rw [List.foldl_cons, ih _ hl.2, allocateSlot_ne (Ne.symm hl.1)]
  rw [allocated, List.foldl_append, List.foldl_cons, hrest _ _ hn]
  change (allocateSlot (allocated slots before) n)[n] = _
  cases he : slots[n].enabled
  · rw [allocateSlot_kept (.inl (by rw [hfresh]; exact he)), hfresh]
    rfl
  · rw [allocateSlot_given (by rw [hfresh]; exact he) (by rw [hfresh]), nextFreeCell_allocated hb, hfresh, if_pos rfl,
      allocateAt_min]

/-- R153: an enabled slot is TRUNCATED where it was granted fewer cells than it asks for. -/
theorem written_status {x : Slot} (h : x.enabled = true) :
    x.written.status = if x.allocation.any fun a => x.count ≤ a.granted then .fresh else .truncated := by
  rw [Slot.written, h, Slot.short]
  cases x.allocation with
  | none => rfl
  | some a =>
    by_cases ha : a.granted < x.count
    · simp [ha, Nat.not_le.mpr ha]
    · simp [ha, Nat.le_of_not_lt ha]

/-- The slots before a slot, in slot order. -/
theorem allSlots_split (n : SlotNo) : ∃ after, allSlots = (allSlots.filter fun m => m.val < n.val) ++ n :: after := by
  exact ⟨allSlots.filter fun m => n.val < m.val, by revert n; decide⟩

end reset

/-- Settles O57: the divisor, the reallocation slot by slot, and the binding. -/
theorem scannerRequestsChangeTheScanner : Obligations.ScannerRequestsChangeTheScanner := by
  refine ⟨fun tag n s hn ht => ?_, fun tag s hm => ⟨fun ht => ?_, fun r cell ht => ?_⟩⟩
  · intro d reply
    have hstatus : (if d = n then Status.done else .clamped) = if 10 ≤ n ∧ n ≤ 10000 then .done else .clamped :=
      ite_congr (propext (by omega)) (fun _ => rfl) fun _ => rfl
    refine ⟨fun hd => ?_, fun hd => ?_⟩
    · rw [exec_reading (h := handleSetDivisor) (t := s.takeFromQueue)
        (reply := ⟨if d = n then Status.done else .clamped, leBytes 4 d⟩) rfl rfl ht (readDivisor_bytes hn)
        (congrArg (·, _) (if_pos hd)), hstatus]
    · rw [exec_reading (h := handleSetDivisor) (t := s.takeFromQueue.setScanner (s.scanner.changeDivisor d))
        (reply := ⟨if d = n then Status.done else .clamped, leBytes 4 d⟩) rfl rfl ht (readDivisor_bytes hn)
        (congrArg (·, _) (if_neg hd)), hstatus]
      rfl
  · have hm' : s.takeFromQueue.link.mode = .offline := hm
    have hhandled : handleScannerReset s.takeFromQueue
        = (s.takeFromQueue.setScanner s.scanner.restart,
          ⟨.done, s.scanner.restart.slots.toList.flatMap fun x => allocationBytes x.allocation⟩) := by
      rw [handleScannerReset, if_neg (not_not_intro hm')]
      rfl
    have hslot (n : SlotNo) : (reallocate s.scanner.slots)[n]
        = ({ s.scanner.slots[n] with allocation := if s.scanner.slots[n].enabled = true then
            (if asked s.scanner.slots (allSlots.filter fun m => m.val < n.val) < 48
              then some ⟨asked s.scanner.slots (allSlots.filter fun m => m.val < n.val), min s.scanner.slots[n].count
                (48 - asked s.scanner.slots (allSlots.filter fun m => m.val < n.val))⟩ else none) else none } : Slot).written := by
      obtain ⟨after, hsplit⟩ := allSlots_split n
      have hnodup : allSlots.Nodup := by decide
      rw [reallocate, getElem_ofFn]
      change (allocated s.scanner.slots allSlots)[n].written = _
      conv => lhs; rw [hsplit]
      rw [hsplit] at hnodup
      rw [allocated_mem hnodup]
    have hrestart : s.scanner.restart = { s.scanner with
        inProgress := none, slots := reallocate s.scanner.slots, working := Vector.replicate 48 ⟨0, false⟩
        settlingRemaining := s.scanner.settlingCount } := rfl
    rw [hrestart] at hhandled
    generalize reallocate s.scanner.slots = slots at hhandled hslot
    refine ⟨slots, exec_reading (h := fun _ => handleScannerReset) (a := ()) rfl rfl ht rfl hhandled,
      fun n => ?_, fun n he => ?_⟩
    · rw [hslot]
      refine ⟨rfl, rfl, rfl, rfl, rfl, fun he => ?_, fun he => ?_⟩
      · have he' : s.scanner.slots[n].enabled = false := he
        simp only [Slot.written, he', Bool.false_eq_true, if_false, Bool.false_and]
        exact ⟨trivial, trivial⟩
      · have he' : s.scanner.slots[n].enabled = true := he
        exact written_status he'
    · intro before
      have hbefore : asked s.scanner.slots (allSlots.filter fun m => m.val < n.val) = before := by
        rw [asked, List.filter_filter]
        simp only [before, Bool.and_comm]
      have he' : s.scanner.slots[n].enabled = true := by rw [hslot] at he; exact he
      rw [hslot, hbefore]
      simp only [Slot.written, he', if_true]
  · have hm' : s.takeFromQueue.link.mode = .offline := hm
    have hrebind : (s.scanner.roles[r]).rebind cell
        = if (s.scanner.roles[r]).binding = cell then s.scanner.roles[r] else ⟨cell, false, 0, 0⟩ := rfl
    have hhandled : handleBind (r, cell.map (·.val)) s.takeFromQueue = (s.takeFromQueue.setScanner { s.scanner with
        roles := s.scanner.roles.set r ((s.scanner.roles[r]).rebind cell) },
        ⟨.done, leBytes 1 r.val ++ optional 1 (cell.map (·.val))⟩) := by
      rw [handleBind, if_neg (not_not_intro hm')]
      simp only [bindingOf_cell]
      rfl
    rw [hrebind] at hhandled
    exact exec_reading rfl rfl ht (readBinding_bytes r cell) hhandled

end Sys2Proof.Proofs.Scanning

/-! # The scan tick and the slot reads (8.1 to 8.3) -/

namespace Sys2Proof.Proofs.Probing
open Sys2Proof Sys2Proof.Machine Sys2Proof.Proofs.Frames Sys2Proof.Proofs.Steps Sys2Proof.Proofs.Clockwork
open Sys2Proof.Proofs.Soundness Sys2Proof.Proofs.Scanning

set_option Elab.async false

/-! ### Where a scan goes on (8.2) -/

section continuing
variable {s : State} {c : Scanner} {e first : Nat} {n : SlotNo}

theorem isRead_iff (x : Slot) : x.isRead = true ↔ x.enabled = true ∧ x.status ≠ .failed := by
  simp [Slot.isRead]

/-- R154: the lowest slot from `first` that is read. -/
theorem slotFrom_eq (hfirst : first ≤ n.val) (hn : c.slots[n].isRead = true)
    (hbefore : ∀ m : SlotNo, first ≤ m.val → m.val < n.val → c.slots[m].isRead = false) : c.slotFrom first = some n := by
  obtain ⟨after, hsplit⟩ := allSlots_split n
  rw [Scanner.slotFrom, List.find?_eq_some_iff_append]
  refine ⟨by simp only [hfirst, hn, decide_true, Bool.and_self], _, after, hsplit, fun m hm => ?_⟩
  have hlt : m.val < n.val := by simpa using (List.mem_filter.mp hm).2
  by_cases h : first ≤ m.val
  · simp only [hbefore m h hlt, Bool.and_false, Bool.not_false]
  · simp only [h, decide_false, Bool.false_and, Bool.not_false]

theorem slotFrom_none (h : ∀ m : SlotNo, first ≤ m.val → c.slots[m].isRead = false) : c.slotFrom first = none := by
  rw [Scanner.slotFrom, List.find?_eq_none]
  intro m _
  by_cases hm : first ≤ m.val
  · simp only [h m hm, Bool.and_false, Bool.false_eq_true, not_false_eq_true]
  · simp only [hm, decide_false, Bool.false_and, Bool.false_eq_true, not_false_eq_true]

/-- R154: the scan reads its next slot with the definition it has. -/
theorem continueScan_reads (h : s.scanner.slotFrom first = some n) :
    s.continueScan e first = s.setScanner { s.scanner with inProgress := some ⟨e, s.scanner.readOf n⟩ } := by
  rw [State.continueScan, h]

theorem continueScan_publishes (h : s.scanner.slotFrom first = none) : s.continueScan e first = s.publish e := by
  rw [State.continueScan, h]

/-- R154, R160: going on with a scan touches the scanner and the scans to be taken. -/
theorem continueScan_eq_with : s.continueScan e first
    = { s with scanner := (s.continueScan e first).scanner, toTake := (s.continueScan e first).toTake } := by
  unfold State.continueScan
  split <;> rfl

theorem continueScan_working : (s.continueScan e first).scanner.working = s.scanner.working := by
  unfold State.continueScan; split <;> rfl

end continuing

/-! ### The scan tick (8.1) -/

section tick
variable {s : State} {e : Nat}

/-- R151: the E of a scan that starts. -/
theorem elapsedTicks_eq (c : Scanner) : c.elapsedTicks = if c.markedD then c.divisor
    else if c.sinceStart < 2 ^ 32 then c.sinceStart else (Config.wideElapsed c.sinceStart).toNat := by
  have h : c.sinceStart ≤ Config.max32 ↔ c.sinceStart < 2 ^ 32 := by
    rw [show Config.max32 = 2 ^ 32 - 1 from rfl]; omega
  simp only [Scanner.elapsedTicks, h]

theorem unrefreshed_get (w : Vector WorkingCell 48) (i : CellNo) : (unrefreshed w)[i] = ⟨w[i].value, false⟩ := by
  rw [unrefreshed, getElem_ofFn]

/-- R150: a tick while a scan is in progress. -/
theorem tickScan_overrun {p : ScanInProgress} (h : s.scanner.inProgress = some p) :
    s.tickScan = (s.setScanner { s.scanner with countdown := s.scanner.divisor }).setFlag .scanOverrun := by
  simp only [State.tickScan, h]

theorem tickScan_starts (h : s.scanner.inProgress = none) :
    s.tickScan = (s.setScanner { s.scanner with
      countdown := s.scanner.divisor, markedD := false, sinceStart := 0
      working := unrefreshed s.scanner.working }).continueScan s.scanner.elapsedTicks 0 := by
  simp only [State.tickScan, h]
  rfl

/-- R161: before any read of a scan, no cell of the working image is refreshed. -/
theorem publishedCells_unrefreshed {c : Scanner} {w : Vector WorkingCell 48} (hw : c.working = unrefreshed w) (i : CellNo) :
    c.publishedCells[i] = ⟨w[i].value, if 0 < c.settlingRemaining then .unsettled else .heldFromMiss⟩ := by
  rw [Scanner.publishedCells, getElem_ofFn, hw, unrefreshed_get, markOf]
  simp

/-- R154: with no slot read from the first on, the scan is published at once. -/
theorem startScan_published {u : State} {w : Vector WorkingCell 48} (hw : u.scanner.working = unrefreshed w)
    (h : ∀ n : SlotNo, u.scanner.slots[n].enabled = false ∨ u.scanner.slots[n].status = .failed) :
    ∃ x : Scan, u.continueScan e 0 = { u with
        scanner := u.scanner.afterPublication x, toTake := u.toTake ++ allConsumers.map (fun c => (c, x)) }
      ∧ x.elapsed = e ∧ x.sequence = u.scanner.nextSequence ∧ x.moment = u.now
      ∧ ∀ i : CellNo, x.cells[i] = ⟨w[i].value, if 0 < u.scanner.settlingRemaining then .unsettled else .heldFromMiss⟩ := by
  have hnone : u.scanner.slotFrom 0 = none := slotFrom_none fun m _ => Bool.eq_false_iff.mpr fun hr => by
    obtain ⟨he, hs⟩ := (isRead_iff _).mp hr
    obtain h | h := h m
    · rw [he] at h; cases h
    · exact hs h
  exact ⟨u.scanner.scan e u.now, continueScan_publishes hnone, rfl, rfl, rfl, publishedCells_unrefreshed hw⟩

/-- R154: else the first slot that is enabled and not FAILED is read. -/
theorem startScan_reads {u : State} {n : SlotNo} (he : u.scanner.slots[n].enabled = true)
    (hs : u.scanner.slots[n].status ≠ .failed)
    (hbefore : ∀ m : SlotNo, m.val < n.val → u.scanner.slots[m].enabled = false ∨ u.scanner.slots[m].status = .failed) :
    u.continueScan e 0 = u.setScanner { u.scanner with inProgress := some ⟨e, u.scanner.readOf n⟩ } := by
  refine continueScan_reads (slotFrom_eq (Nat.zero_le _) ((isRead_iff _).mpr ⟨he, hs⟩) fun m _ hm => ?_)
  refine Bool.eq_false_iff.mpr fun hr => ?_
  obtain ⟨he', hs'⟩ := (isRead_iff _).mp hr
  obtain h | h := hbefore m hm
  · rw [he'] at h; cases h
  · exact hs' h

end tick

/-- Settles O54: the ticks pass, and the scan is overrun, read on or published. -/
theorem scanTickStartsAScan : Obligations.ScanTickStartsAScan := by
  intro s hm
  refine ⟨_, (exec_event rfl s).trans (by rw [State.atDate, if_pos hm]), ?_⟩
  cases hp : s.scanner.inProgress with
  | some p =>
    have hup : (s.elapse s.scanner.countdown).scanner.inProgress
        = some { p with read := { p.read with elapsed := p.read.elapsed + s.scanner.countdown } } := by
      rw [State.elapse, Scanner.elapse, hp]; rfl
    rw [tickScan_overrun hup]
    refine ⟨rfl, rfl, rfl, ?_, ?_, rfl, rfl, rfl, rfl, fun q hq => ⟨rfl, ?_, ?_⟩, fun h => absurd h (by simp), rfl⟩
    · simp [State.setFlag, State.elapse, Link.elapse]
    · simp [State.setFlag, State.elapse, Link.elapse]
    · simp [State.setFlag, State.elapse, Link.elapse, ReadFlags.set]
    · obtain rfl := Option.some.inj hq
      rw [← hup]
      rfl
  | none =>
    have hup : (s.elapse s.scanner.countdown).scanner.inProgress = none := by
      rw [State.elapse, Scanner.elapse, hp]; rfl
    rw [tickScan_starts hup]
    have hE : (s.elapse s.scanner.countdown).scanner.elapsedTicks = (if s.scanner.markedD then s.scanner.divisor
        else if s.scanner.sinceStart + s.scanner.countdown < 2 ^ 32 then s.scanner.sinceStart + s.scanner.countdown
        else (Config.wideElapsed (s.scanner.sinceStart + s.scanner.countdown)).toNat) := elapsedTicks_eq _
    obtain ⟨e, hEe⟩ : ∃ e, e = (s.elapse s.scanner.countdown).scanner.elapsedTicks := ⟨_, rfl⟩
    rw [← hEe]
    rw [hE] at hEe
    generalize hu : (s.elapse s.scanner.countdown).setScanner _ = u
    have hwith := continueScan_eq_with (s := u) (e := e) (first := 0)
    obtain ⟨hdivisor, hcountdown, hsince, hmarked⟩ : (u.continueScan e 0).scanner.divisor = s.scanner.divisor
        ∧ (u.continueScan e 0).scanner.countdown = s.scanner.divisor ∧ (u.continueScan e 0).scanner.sinceStart = 0
        ∧ (u.continueScan e 0).scanner.markedD = false := by
      have h := continueScan_clock u e 0
      simp only [clock, Prod.mk.injEq] at h
      rw [← hu] at h ⊢
      exact h
    have hworking (i : CellNo) : (u.continueScan e 0).scanner.working[i] = ⟨s.scanner.working[i].value, false⟩ := by
      rw [continueScan_working, ← hu]
      exact unrefreshed_get _ i
    have hlink : (u.continueScan e 0).link = s.link.elapse s.scanner.countdown := by rw [hwith, ← hu]; rfl
    refine ⟨?_, hcountdown, hdivisor, ?_, ?_, ?_, ?_, ?_, ?_, fun p hq => absurd hq (by simp),
      fun _ => ⟨hsince, hmarked, ?_, hworking, fun n he hs hbefore => ?_, fun hnone => ?_⟩, ?_⟩
    · rw [State.settle_now, hwith, ← hu]; rfl
    · rw [State.settle_link, Link.arbitrate_mode, hlink]; rfl
    · rw [State.settle_link, Link.arbitrate_requests, hlink]; rfl
    · rw [State.settle_tracker, hwith, ← hu]; rfl
    · rw [State.settle_shift, hwith, ← hu]; rfl
    · rw [State.settle_protection, hwith, ← hu]; rfl
    · rw [State.settle_sample, hwith, ← hu]; rfl
    · rw [State.settle_link, Link.arbitrate_flags, hlink]; rfl
    · rw [startScan_reads (u := u) (n := n) (by subst hu; exact he) (by subst hu; exact hs) (by subst hu; exact hbefore),
        hEe]
      subst hu
      exact ⟨rfl, rfl, rfl⟩
    · obtain ⟨x, hx, helapsed, hsequence, hmoment, hcells⟩ := startScan_published (e := e) (u := u)
        (w := s.scanner.working) (by rw [← hu]; rfl) (by subst hu; exact hnone)
      rw [hx]
      subst hu
      exact ⟨x, rfl, helapsed.trans hEe, hsequence, hmoment, rfl, hcells, rfl⟩
    · rw [show (u.continueScan e 0).settle = { u with
        scanner := (u.continueScan e 0).scanner, toTake := (u.continueScan e 0).toTake
        link := (u.continueScan e 0).settle.link, pins := (u.continueScan e 0).settle.pins } by rw [hwith]; rfl]
      subst hu
      rfl

/-! ### The end of a slot read (8.2, 8.3) -/

section reads
variable {s : State} {p : ScanInProgress} {n : SlotNo}

/-- R154, R160: where a scan stands in `t` once the read of slot `k` of `s` has ended. -/
def GoesOn (s : State) (e : Nat) (k : SlotNo) (t : State) : Prop :=
  (∀ n : SlotNo, k.val < n.val → s.scanner.slots[n].isRead = true →
    (∀ m : SlotNo, k.val < m.val → m.val < n.val → s.scanner.slots[m].isRead = false) →
    t.scanner.inProgress = some ⟨e, s.scanner.readOf n⟩ ∧ t.toTake = s.toTake ∧ t.scanner.published = s.scanner.published)
  ∧ ((∀ n : SlotNo, k.val < n.val → s.scanner.slots[n].isRead = false) →
    ∃ y : Scan, t.scanner.published = some y ∧ y.elapsed = e ∧ y.sequence = s.scanner.nextSequence ∧ y.moment = t.now
      ∧ t.scanner.inProgress = none ∧ t.toTake = s.toTake ++ allConsumers.map fun c => (c, y))

/-- R154: a scan goes on from a state whose later slots, published scan and scans to be taken are those of `s`. -/
theorem continueScan_goesOn {u : State} {e : Nat} {k : SlotNo}
    (hslots : ∀ m : SlotNo, k.val < m.val → u.scanner.slots[m] = s.scanner.slots[m])
    (hpublished : u.scanner.published = s.scanner.published) (hsequence : u.scanner.nextSequence = s.scanner.nextSequence)
    (htoTake : u.toTake = s.toTake) : GoesOn s e k (u.continueScan e (k.val + 1)) := by
  refine ⟨fun n hn hr hbefore => ?_, fun hnone => ?_⟩
  · have hslot : u.scanner.slotFrom (k.val + 1) = some n :=
      slotFrom_eq hn (by rw [hslots n hn]; exact hr) fun m hm hlt => by rw [hslots m hm]; exact hbefore m hm hlt
    have hread : u.scanner.readOf n = s.scanner.readOf n := by simp only [Scanner.readOf, hslots n hn]
    rw [continueScan_reads hslot, hread]
    exact ⟨rfl, htoTake, hpublished⟩
  · have hslot : u.scanner.slotFrom (k.val + 1) = none := slotFrom_none fun m hm => by rw [hslots m hm]; exact hnone m hm
    rw [continueScan_publishes hslot]
    exact ⟨_, rfl, rfl, hsequence, rfl, rfl, by rw [← htoTake]; rfl⟩

theorem continueScan_link {e first : Nat} : (s.continueScan e first).link = s.link := by rw [continueScan_eq_with]

theorem continueScan_now {e first : Nat} : (s.continueScan e first).now = s.now := by rw [continueScan_eq_with]

/-- R189: what raising a notice does to the link does not depend on the rest of the state. -/
theorem raise_link_congr {t : State} (h : s.link = t.link) (x : Notice) : (s.raise x).link = (t.raise x).link := by
  unfold State.raise State.setFlag
  rw [h]
  split
  · split <;> rfl
  · exact h

theorem afterMiss_failed (x : Slot) : x.afterMiss.status = .failed ↔ 2 ≤ x.misses := by
  unfold Slot.afterMiss
  by_cases h : x.misses < 2
  · simp [h]
  · simp [h]; omega

/-- R156: what a miss does to the slots, and to the link. -/
theorem countMiss_slots : (s.countMiss n).scanner
    = { s.scanner with slots := (s.scanner.slots.set n
        (if s.scanner.slots[n].enabled then s.scanner.slots[n].afterMiss else s.scanner.slots[n])) } := by
  unfold State.countMiss
  dsimp only
  cases he : s.scanner.slots[n].enabled
  · have hself : s.scanner.slots.set n s.scanner.slots[n] = s.scanner.slots := by simp
    simp only [Bool.false_eq_true, if_false, hself]
  · simp only [if_true]
    split
    · rw [State.raise_scanner]; rfl
    · rfl

theorem countMiss_link : (s.countMiss n).link = if s.scanner.slots[n].enabled = true ∧ 2 ≤ s.scanner.slots[n].misses
    then (s.raise (.probeFailed n s.scanner.slots[n].address s.scanner.nextSequence)).link else s.link := by
  unfold State.countMiss
  dsimp only
  cases he : s.scanner.slots[n].enabled
  · simp
  · by_cases hm : 2 ≤ s.scanner.slots[n].misses
    · rw [if_pos rfl, if_pos ((afterMiss_failed _).mpr hm), if_pos ⟨rfl, hm⟩]
      exact raise_link_congr (s := s.setSlot n s.scanner.slots[n].afterMiss) (t := s) rfl _
    · rw [if_pos rfl, if_neg (mt (afterMiss_failed _).mp hm), if_neg fun h => hm h.2]
      rfl

theorem countGood_scanner : (s.countGood n).scanner
    = { s.scanner with slots := (s.scanner.slots.set n
        (if s.scanner.slots[n].enabled then s.scanner.slots[n].afterGood else s.scanner.slots[n])) } := by
  unfold State.countGood
  dsimp only
  cases he : s.scanner.slots[n].enabled
  · have hself : s.scanner.slots.set n s.scanner.slots[n] = s.scanner.slots := by simp
    simp only [Bool.false_eq_true, if_false, hself]
  · rfl

theorem countGood_link : (s.countGood n).link = s.link := by
  unfold State.countGood; dsimp only; split <;> rfl

theorem set_slot_later {slots : Vector Slot 12} {k m : SlotNo} (x : Slot) (h : k.val < m.val) :
    (slots.set k x)[m] = slots[m] := by
  rw [getElem_set_slot, if_neg fun e => by rw [e] at h; exact Nat.lt_irrefl _ h]

/-- R155, R156: a read that ends as a miss. -/
theorem readMissed_scanner : (s.readMissed p).scanner.slots = s.scanner.slots.set p.read.slot
      (if s.scanner.slots[p.read.slot].enabled then s.scanner.slots[p.read.slot].afterMiss else s.scanner.slots[p.read.slot])
    ∧ (s.readMissed p).scanner.working = s.scanner.working ∧ GoesOn s p.elapsed p.read.slot (s.readMissed p) := by
  have hs := countMiss_slots (s := s) (n := p.read.slot)
  refine ⟨?_, ?_, ?_⟩
  · rw [State.readMissed, continueScan_slots, hs]
  · rw [State.readMissed, continueScan_working, hs]
  · refine continueScan_goesOn (fun m hm => ?_) ?_ ?_ countMiss_differs.toTake
    · rw [hs]; exact set_slot_later _ hm
    · rw [hs]
    · rw [hs]

theorem readMissed_link : (s.readMissed p).link
    = if s.scanner.slots[p.read.slot].enabled = true ∧ 2 ≤ s.scanner.slots[p.read.slot].misses
      then (s.raise (.probeFailed p.read.slot s.scanner.slots[p.read.slot].address s.scanner.nextSequence)).link
      else s.link := by
  rw [State.readMissed, continueScan_link, countMiss_link]

/-- R156, R159: a read that ends good. -/
theorem readGood_scanner (values : List (BitVec 32)) : (s.readGood p values).scanner.slots = s.scanner.slots.set p.read.slot
      (if s.scanner.slots[p.read.slot].enabled then s.scanner.slots[p.read.slot].afterGood else s.scanner.slots[p.read.slot])
    ∧ (s.readGood p values).scanner.working = p.read.write values s.scanner.working
    ∧ GoesOn s p.elapsed p.read.slot (s.readGood p values) ∧ (s.readGood p values).link = s.link := by
  rw [State.readGood]
  generalize p.read.write values s.scanner.working = w
  have hs := countGood_scanner (s := s.setScanner { s.scanner with working := w }) (n := p.read.slot)
  refine ⟨?_, ?_, ?_, ?_⟩
  · rw [continueScan_slots, hs, State.setScanner_scanner]
  · rw [continueScan_working, hs, State.setScanner_scanner]
  · refine continueScan_goesOn (fun m hm => ?_) ?_ ?_ countGood_differs.toTake
    · rw [hs, set_slot_later _ hm, State.setScanner_scanner]
    · rw [hs, State.setScanner_scanner]
    · rw [hs, State.setScanner_scanner]
  · rw [continueScan_link, countGood_link]
    rfl

/-- R159: the cells that a good read's values go to, and those it leaves. -/
theorem write_cells {r : SlotRead} {a : Allocation} {values : List (BitVec 32)} {w : Vector WorkingCell 48}
    (ha : r.allocation = some a) (hl : values.length = r.count) (i : CellNo) :
    (∀ k v, values[k]? = some v → k < a.granted → i.val = a.first + k → (r.write values w)[i] = ⟨v.toInt, true⟩)
      ∧ (i.val < a.first ∨ a.first + min r.count a.granted ≤ i.val → (r.write values w)[i] = w[i]) := by
  have hfirst : r.firstCell = a.first := by rw [SlotRead.firstCell, ha]; rfl
  have hwritten : r.written = min r.count a.granted := by rw [SlotRead.written, ha]
  rw [SlotRead.write, getElem_ofFn, hfirst, hwritten]
  refine ⟨fun k v hv hk hi => ?_, fun hi => ?_⟩
  · have hlen : k < values.length := by
      refine Classical.byContradiction fun hge => ?_
      rw [List.getElem?_eq_none (Nat.le_of_not_lt hge)] at hv
      cases hv
    have hin : (decide (a.first ≤ i.val) && decide (i.val < a.first + min r.count a.granted)) = true := by
      simp only [Bool.and_eq_true, decide_eq_true_eq]; omega
    have hplace : i.val - a.first = k := by omega
    rw [if_pos hin, hplace, hv]
  · have hout : ¬ (decide (a.first ≤ i.val) && decide (i.val < a.first + min r.count a.granted)) = true := by
      simp only [Bool.and_eq_true, decide_eq_true_eq]; omega
    rw [if_neg hout]

theorem write_unallocated {r : SlotRead} {values : List (BitVec 32)} {w : Vector WorkingCell 48} (ha : r.allocation = none) :
    r.write values w = w := by
  have hwritten : r.written = 0 := by rw [SlotRead.written, ha]
  refine Vector.ext fun i hi => ?_
  have h := getElem_ofFn (fun i : CellNo => if r.firstCell ≤ i.val && i.val < r.firstCell + r.written then
      match values[i.val - r.firstCell]? with
      | some v => ⟨v.toInt, true⟩
      | none => w[i]
    else w[i]) ⟨i, hi⟩
  have hout : ¬ (decide (r.firstCell ≤ i) && decide (i < r.firstCell + r.written)) = true := by
    simp only [Bool.and_eq_true, decide_eq_true_eq]; omega
  exact h.trans (if_neg hout)

/-- R155: the replies that are good. -/
theorem accepts_iff {r : SlotRead} {address : Byte} {values : List (BitVec 32)} {crc : BitVec 16} :
    r.accepts address values crc = true ↔ r.elapsed ≤ 22 ∧ address.toNat = r.address ∧ values.length = r.count
      ∧ crc = crc16 (probeReplyCovered address values) := by
  simp only [SlotRead.accepts, Bool.and_eq_true, decide_eq_true_eq, and_assoc]
  rfl

theorem goesOn_settle {e : Nat} {k : SlotNo} {t : State} (h : GoesOn s e k t) : GoesOn s e k t.settle := h

/-- `GoesOn` written out over the slots. -/
theorem goesOn_iff {e : Nat} {k : SlotNo} {t : State} : GoesOn s e k t
    ↔ (∀ n : SlotNo, k.val < n.val → (s.scanner.slots[n].enabled = true ∧ s.scanner.slots[n].status ≠ .failed) →
        (∀ m : SlotNo, k.val < m.val → m.val < n.val →
          ¬ (s.scanner.slots[m].enabled = true ∧ s.scanner.slots[m].status ≠ .failed)) →
        t.scanner.inProgress = some ⟨e, n, s.scanner.slots[n].address, s.scanner.slots[n].firstValue,
            s.scanner.slots[n].count, s.scanner.slots[n].allocation, 0⟩
          ∧ t.toTake = s.toTake ∧ t.scanner.published = s.scanner.published)
      ∧ ((∀ n : SlotNo, k.val < n.val → ¬ (s.scanner.slots[n].enabled = true ∧ s.scanner.slots[n].status ≠ .failed)) →
        ∃ y : Scan, t.scanner.published = some y ∧ y.elapsed = e ∧ y.sequence = s.scanner.nextSequence
          ∧ y.moment = t.now ∧ t.scanner.inProgress = none ∧ t.toTake = s.toTake ++ allConsumers.map fun c => (c, y)) := by
  simp only [GoesOn, ← isRead_iff, Bool.not_eq_true]
  rfl

/-- R155: a reply while a read is in progress. -/
theorem takeProbeReply_eq {address : Byte} {values : List (BitVec 32)} {crc : BitVec 16} (hp : s.scanner.inProgress = some p) :
    s.takeProbeReply address values crc = if p.read.accepts address values crc then s.readGood p values else s.readMissed p := by
  simp only [State.takeProbeReply, hp]

theorem readMissed_now : (s.readMissed p).now = s.now := by
  rw [State.readMissed, continueScan_now, countMiss_differs.now]

theorem readGood_now {values : List (BitVec 32)} : (s.readGood p values).now = s.now := by
  rw [State.readGood, continueScan_now, countGood_differs.now, State.setScanner_now]

theorem clock_fields {c d : Scanner} (h : clock c = clock d) :
    c.divisor = d.divisor ∧ c.countdown = d.countdown ∧ c.sinceStart = d.sinceStart := by
  simp only [clock, Prod.mk.injEq] at h
  obtain ⟨hdivisor, hcountdown, hsince, -⟩ := h
  exact ⟨hdivisor, hcountdown, hsince⟩

end reads

/-- Settles O55, by the reply's goodness, and for the timeout after the missing ticks. -/
theorem slotReadsEndGoodOrMissed : Obligations.SlotReadsEndGoodOrMissed := by
  intro p address values crc s hp x good isRead goesOn missed
  have hmissed (u : State) (e : Nat) (hgo : ∀ t, GoesOn u p.elapsed p.read.slot t → GoesOn s p.elapsed p.read.slot t)
      (hslots : u.scanner.slots = s.scanner.slots) (hworking : u.scanner.working = s.scanner.working)
      (hsequence : u.scanner.nextSequence = s.scanner.nextSequence) :
      missed (u.readMissed { p with read := { p.read with elapsed := e } }).settle u.link := by
    obtain ⟨h1, h2, h3⟩ := readMissed_scanner (s := u) (p := { p with read := { p.read with elapsed := e } })
    have h4 := readMissed_link (s := u) (p := { p with read := { p.read with elapsed := e } })
    dsimp only at h1 h2 h3 h4
    rw [hslots] at h1 h4
    rw [hworking] at h2
    rw [hsequence] at h4
    refine ⟨h1, h2, goesOn_iff.mp (goesOn_settle (hgo _ h3)), ?_⟩
    rw [State.settle_link, h4]
    exact congrArg Link.arbitrate (ite_congr rfl (fun _ => raise_link_congr (s := u) (t := { s with link := u.link }) rfl _) fun _ => rfl)
  refine ⟨⟨_, exec_event rfl s, ?_⟩, fun hm => ⟨_, exec_event rfl s, ?_⟩⟩
  · rw [takeProbeReply_eq hp]
    by_cases hgood : good
    · rw [if_pos (accepts_iff.mpr hgood)]
      obtain ⟨hslots, hworking, hgoes, hlink⟩ := readGood_scanner (s := s) (p := p) values
      obtain ⟨hdivisor, hcountdown, hsince⟩ := clock_fields (readGood_clock s p values)
      have hkept {b : Block} (hb : b ∉ [Block.scanner, .line]) := readGood_same (s := s) (p := p) (values := values) hb
      refine ⟨hkept (b := .tracker) (by decide), hkept (b := .stations) (by decide), readGood_now, ?_,
        hkept (b := .shift) (by decide), hkept (b := .protection) (by decide), hkept (b := .sample) (by decide),
        hdivisor, hcountdown, hsince, fun hno => absurd hgood hno, fun _ => ⟨hslots, goesOn_iff.mp (goesOn_settle hgoes), ?_,
        fun a ha i => ?_, fun ha => ?_⟩⟩
      · rw [State.settle_link, Link.arbitrate_mode, hlink]
      · rw [State.settle_link, hlink]
      · rw [State.settle_scanner, hworking]
        exact write_cells ha hgood.2.2.1 i
      · rw [State.settle_scanner, hworking, write_unallocated ha]
    · rw [if_neg (mt accepts_iff.mp hgood)]
      obtain ⟨hdivisor, hcountdown, hsince⟩ := clock_fields (readMissed_clock s p)
      have hkept {b : Block} (hb : b ∉ [Block.scanner, .line, .notices]) := readMissed_same (s := s) (p := p) hb
      refine ⟨hkept (b := .tracker) (by decide), hkept (b := .stations) (by decide), readMissed_now, ?_,
        hkept (b := .shift) (by decide), hkept (b := .protection) (by decide), hkept (b := .sample) (by decide),
        hdivisor, hcountdown, hsince, fun _ => hmissed s p.read.elapsed (fun _ h => h) rfl rfl rfl,
        fun hyes => absurd hyes hgood⟩
      rw [State.settle_link, Link.arbitrate_mode]
      exact hkept (b := .mode) (by decide)
  · have hpass : s.passProbeTimeout = (s.elapse (23 - p.read.elapsed)).readMissed p := by
      simp only [State.passProbeTimeout, hp]
      exact if_pos hm
    rw [hpass]
    have hkept {b : Block} (hb : b ∉ [Block.scanner, .line, .notices]) :=
      readMissed_same (s := s.elapse (23 - p.read.elapsed)) (p := p) hb
    refine ⟨readMissed_now, hmissed (s.elapse (23 - p.read.elapsed)) p.read.elapsed (fun _ h => h) rfl rfl rfl,
      hkept (b := .tracker) (by decide), ?_, hkept (b := .shift) (by decide), hkept (b := .protection) (by decide),
      hkept (b := .sample) (by decide)⟩
    rw [State.settle_link, Link.arbitrate_mode]
    exact hkept (b := .mode) (by decide)

end Sys2Proof.Proofs.Probing

/-! # The arbiter's pass (1.5) -/

namespace Sys2Proof.Proofs.Arbiter
open Sys2Proof Sys2Proof.Machine Sys2Proof.Proofs.Frames Sys2Proof.Proofs.Soundness Sys2Proof.Proofs.Stations
open Sys2Proof.Proofs.GoOffline (mem_allStations)

set_option Elab.async false

section pass
variable {s : State} {n : Nat} {i j : StationNo}

/-! ### One assignment (R22) -/

/-- R22: the assignment before its UNIT_ASSIGNED is raised. -/
def assigned (n : Nat) (i : StationNo) (s : State) : State :=
  { s with
    tracker := { s.tracker with
      degasQueue := s.tracker.degasQueue.erase n
      units := s.tracker.units.map fun u => if u.tag = n then { u with state := .assigned, station := some i } else u }
    stations := s.stations.set i { s.station i with state := .assigned, unit := some n, family := s.familyOfUnit n } }

theorem assign_eq : s.assign n i = (assigned n i s).raise (.unitAssigned n i) := rfl

theorem assign_station : (s.assign n i).station j = if i = j
    then { s.station i with state := .assigned, unit := some n, family := s.familyOfUnit n } else s.station j := by
  rw [assign_eq, State.raise_station]
  exact State.setStation_station s i j _

theorem assign_degasQueue : (s.assign n i).tracker.degasQueue = s.tracker.degasQueue.erase n := by
  rw [assign_eq, State.raise_tracker]; rfl

/-- A change of records that keeps their tags changes the record found under a tag. -/
theorem find_map_of_tag {f : UnitRecord → UnitRecord} (hf : ∀ u, (f u).tag = u.tag) (l : List UnitRecord) (m : Nat) :
    (l.map f).find? (fun u => u.tag = m) = (l.find? fun u => u.tag = m).map f := by
  rw [List.find?_map]
  simp only [Function.comp_def, hf]

/-- An assignment changes no unit's class. -/
theorem findUnit_assigned (m : Nat) : ((assigned n i s).findUnit m).map (·.cls) = (s.findUnit m).map (·.cls) := by
  have htag (u : UnitRecord) : (if u.tag = n then { u with state := .assigned, station := some i } else u).tag = u.tag := by
    split <;> rfl
  have hcls (u : UnitRecord) : (if u.tag = n then { u with state := .assigned, station := some i } else u).cls = u.cls := by
    split <;> rfl
  rw [State.findUnit, assigned]
  dsimp only
  rw [find_map_of_tag htag, Option.map_map, State.findUnit]
  exact congrArg (fun g => Option.map g _) (funext hcls)

theorem familyOfUnit_eq (m : Nat) : s.familyOfUnit m = ((s.findUnit m).map (·.cls)).bind s.circuitFamily := by
  rw [State.familyOfUnit]
  cases s.findUnit m <;> rfl

theorem eligible_eq (m : Nat) : s.eligible m = (match s.familyOfUnit m with
    | none => false
    | some f => (s.receiver f).standing.isInUse) := rfl

theorem familyOfUnit_assigned (m : Nat) : (assigned n i s).familyOfUnit m = s.familyOfUnit m := by
  rw [familyOfUnit_eq, familyOfUnit_eq, findUnit_assigned]; rfl

theorem eligible_assigned (m : Nat) : (assigned n i s).eligible m = s.eligible m := by
  rw [eligible_eq, eligible_eq, familyOfUnit_assigned]
  cases s.familyOfUnit m with
  | none => rfl
  | some f => cases f <;> rfl

theorem eligible_raise (x : Notice) (m : Nat) : (s.raise x).eligible m = s.eligible m := by
  simp only [State.eligible, State.findUnit, State.circuitFamily, State.classEntry, State.gas, State.raise_tracker,
    State.raise_gases, State.raise_receiver]

theorem eligible_assign (m : Nat) : (s.assign n i).eligible m = s.eligible m := by
  rw [assign_eq, eligible_raise, eligible_assigned]

/-! ### Which pair is assigned next -/

/-- R22: the stations that are IDLE, in number order. -/
def idleStations (s : State) : List StationNo := allStations.filter fun i => (s.station i).state = .idle

theorem nextAssignment_eq : s.nextAssignment
    = match idleStations s, s.tracker.degasQueue.filter s.eligible with
      | i :: _, n :: _ => some (n, i)
      | _, _ => none := by
  rw [State.nextAssignment, idleStations, ← List.head?_filter, ← List.head?_filter]
  cases allStations.filter _ <;> cases s.tracker.degasQueue.filter s.eligible <;> rfl

theorem idleStations_nodup : (idleStations s).Nodup := List.Pairwise.filter _ (by decide)

theorem idleStations_ascending : (idleStations s).Pairwise fun i j => i.val < j.val := List.Pairwise.filter _ (by decide)

theorem mem_idleStations : i ∈ idleStations s ↔ (s.station i).state = .idle := by
  simp [idleStations, mem_allStations]

theorem idleStations_assign {rest : List StationNo} (h : idleStations s = i :: rest) :
    idleStations (s.assign n i) = rest := by
  have hrest : rest = (idleStations s).filter fun j => j ≠ i := by
    have hnodup := idleStations_nodup (s := s)
    rw [h, List.nodup_cons] at hnodup
    rw [h, List.filter_cons_of_neg (by simp)]
    refine (List.filter_eq_self.mpr fun j hj => ?_).symm
    rw [decide_eq_true_eq]
    rintro rfl
    exact hnodup.1 hj
  rw [hrest, idleStations, idleStations, List.filter_filter]
  refine List.filter_congr fun j _ => ?_
  rw [assign_station]
  by_cases hj : i = j
  · simp [hj]
  · simp [hj, Ne.symm hj]

/-! ### What the pass leaves -/

/-- R22: a station that is not IDLE is not assigned. -/
theorem assignUpTo_station {k : Nat} (h : (s.station j).state ≠ .idle) : (s.assignUpTo k).station j = s.station j := by
  induction k generalizing s with
  | zero => rfl
  | succ k ih =>
    unfold State.assignUpTo
    split
    · rfl
    · rename_i n i hnext
      have hne : i ≠ j := fun e => h (e ▸ nextAssignment_idle hnext)
      have hstay : (s.assign n i).station j = s.station j := by rw [assign_station, if_neg hne]
      rw [ih (by rw [hstay]; exact h), hstay]

theorem arbiterPass_station (h : (s.station j).state ≠ .idle) : s.arbiterPass.station j = s.station j := by
  unfold State.arbiterPass
  split
  · exact assignUpTo_station h
  · rfl

/-- R21: with fuel for every IDLE station the pass ends with nothing to assign. -/
theorem assignUpTo_done {k : Nat} (h : (idleStations s).length ≤ k) : (s.assignUpTo k).nextAssignment = none := by
  induction k generalizing s with
  | zero =>
    have hnil : idleStations s = [] := List.length_eq_zero_iff.mp (Nat.le_zero.mp h)
    rw [State.assignUpTo, nextAssignment_eq, hnil]
  | succ k ih =>
    unfold State.assignUpTo
    split
    · assumption
    · rename_i n i hnext
      refine ih ?_
      rw [nextAssignment_eq] at hnext
      split at hnext
      · rename_i i' rest n' rest' hidle hqueue
        simp only [Option.some.injEq, Prod.mk.injEq] at hnext
        obtain ⟨rfl, rfl⟩ := hnext
        rw [idleStations_assign hidle]
        rw [hidle, List.length_cons] at h
        omega
      · cases hnext

theorem assignUpTo_sublist {k : Nat} : (s.assignUpTo k).tracker.degasQueue.Sublist s.tracker.degasQueue := by
  induction k generalizing s with
  | zero => exact .refl _
  | succ k ih =>
    unfold State.assignUpTo
    split
    · exact .refl _
    · refine ih.trans ?_
      rw [assign_degasQueue]
      exact List.erase_sublist

/-- R22: while a lower-numbered station stays IDLE, a higher-numbered one is not assigned. -/
theorem assignUpTo_in_order {k : Nat} (hij : i.val < j.val) (h : (s.station i).state = .idle)
    (hk : ((s.assignUpTo k).station i).state = .idle) : (s.assignUpTo k).station j = s.station j := by
  induction k generalizing s with
  | zero => rfl
  | succ k ih =>
    unfold State.assignUpTo at hk ⊢
    split at hk
    · rfl
    · rename_i n i' hnext
      have hfirst : i' = i ∨ i'.val < i.val := by
        rw [nextAssignment_eq] at hnext
        split at hnext
        · rename_i i'' rest n' rest' hidle hqueue
          simp only [Option.some.injEq, Prod.mk.injEq] at hnext
          obtain ⟨rfl, rfl⟩ := hnext
          have hmem := mem_idleStations.mpr h
          have horder := idleStations_ascending (s := s)
          rw [hidle] at hmem horder
          obtain hm | hm := List.mem_cons.mp hmem
          · exact .inl hm.symm
          · exact .inr ((List.pairwise_cons.mp horder).1 i hm)
        · cases hnext
      have hne : i' ≠ i := by
        rintro rfl
        have hassigned : ((s.assign n i').station i').state = .assigned := by rw [assign_station, if_pos rfl]
        rw [assignUpTo_station (by rw [hassigned]; exact fun e => nomatch e), hassigned] at hk
        cases hk
      have hnj : i' ≠ j := by
        rintro rfl
        obtain rfl | hlt := hfirst
        · exact hne rfl
        · omega
      have hi : (s.assign n i').station i = s.station i := by rw [assign_station, if_neg hne]
      rw [ih (by rw [hi]; exact h) hk, assign_station, if_neg hnj]

/-! ### The pass as one assignment of pairs -/

/-- R21: the eligible tags, oldest first, with the IDLE stations in number order. -/
def pairsOf (s : State) : List (Nat × StationNo) := (s.tracker.degasQueue.filter s.eligible).zip (idleStations s)

/-- R22: all the pairs assigned, before their notices. -/
def assignPairs (pairs : List (Nat × StationNo)) (s : State) : State :=
  { s with
    tracker := { s.tracker with
      degasQueue := s.tracker.degasQueue.filter fun n => (pairs.find? fun p => p.1 = n).isNone
      units := s.tracker.units.map fun u =>
        match pairs.find? fun p => p.1 = u.tag with
        | none => u
        | some p => { u with state := .assigned, station := some p.2 } }
    stations := Vector.ofFn fun i : StationNo =>
      match pairs.find? fun p => p.2 = i with
      | none => s.station i
      | some p => { s.station i with state := .assigned, unit := some p.1, family := s.familyOfUnit p.1 } }

theorem assignPairs_nil : assignPairs [] s = s := by
  have hqueue : s.tracker.degasQueue.filter (fun _ => true) = s.tracker.degasQueue := List.filter_eq_self.mpr fun _ _ => rfl
  have hstations : (Vector.ofFn fun i : StationNo => s.station i) = s.stations := by
    refine Vector.ext fun i hi => ?_
    rw [Vector.getElem_ofFn]; rfl
  simp only [assignPairs, List.find?_nil, Option.isNone_none, hqueue, List.map_id', hstations]

theorem familyOfUnit_raise (x : Notice) (m : Nat) : (s.raise x).familyOfUnit m = s.familyOfUnit m := by
  simp only [State.familyOfUnit, State.findUnit, State.circuitFamily, State.classEntry, State.gas, State.raise_tracker,
    State.raise_gases]

theorem raise_eq_setLink (x : Notice) : s.raise x = s.setLink (s.raise x).link := by
  obtain ⟨-, h⟩ | ⟨-, -, h⟩ | ⟨-, -, h⟩ := State.raise_cases x s <;> rw [h] <;> rfl

/-- Raising a notice and assigning pairs touch different blocks. -/
theorem assignPairs_raise (pairs : List (Nat × StationNo)) (x : Notice) :
    assignPairs pairs (s.raise x) = (assignPairs pairs s).raise x := by
  have hlink : ((assignPairs pairs s).raise x).link = (s.raise x).link :=
    Probing.raise_link_congr (s := assignPairs pairs s) (t := s) rfl x
  rw [raise_eq_setLink (s := assignPairs pairs s), hlink, raise_eq_setLink (s := s)]
  rfl

/-- The first pair assigned, and then the others, is all the pairs assigned. -/
theorem assignPairs_cons {pairs : List (Nat × StationNo)} (hn : s.tracker.degasQueue.Nodup)
    (htag : ∀ p ∈ pairs, p.1 ≠ n) (hstation : ∀ p ∈ pairs, p.2 ≠ i) :
    assignPairs pairs (assigned n i s) = assignPairs ((n, i) :: pairs) s := by
  have hnone : pairs.find? (fun p => p.1 = n) = none := List.find?_eq_none.mpr fun p hp => by simpa using htag p hp
  have hnone' : pairs.find? (fun p => p.2 = i) = none := List.find?_eq_none.mpr fun p hp => by simpa using hstation p hp
  have hcons (m : Nat) : ((n, i) :: pairs).find? (fun p => p.1 = m) = if n = m then some (n, i)
      else pairs.find? fun p => p.1 = m := by
    rw [List.find?_cons]
    by_cases hm : n = m <;> simp [hm]
  have hcons' (j : StationNo) : ((n, i) :: pairs).find? (fun p => p.2 = j) = if i = j then some (n, i)
      else pairs.find? fun p => p.2 = j := by
    rw [List.find?_cons]
    by_cases hj : i = j <;> simp [hj]
  have hqueue : (s.tracker.degasQueue.erase n).filter (fun m => (pairs.find? fun p => p.1 = m).isNone)
      = s.tracker.degasQueue.filter fun m => (((n, i) :: pairs).find? fun p => p.1 = m).isNone := by
    rw [hn.erase_eq_filter, List.filter_filter]
    refine List.filter_congr fun m _ => ?_
    rw [hcons]
    by_cases hm : n = m
    · simp [hm]
    · simp [hm, Ne.symm hm]
  have hunit (u : UnitRecord) : (match pairs.find? fun p => p.1 = (if u.tag = n
        then { u with state := .assigned, station := some i } else u).tag with
      | none => if u.tag = n then { u with state := .assigned, station := some i } else u
      | some p => { (if u.tag = n then { u with state := .assigned, station := some i } else u) with
          state := .assigned, station := some p.2 })
      = match ((n, i) :: pairs).find? fun p => p.1 = u.tag with
        | none => u
        | some p => { u with state := .assigned, station := some p.2 } := by
    rw [hcons]
    by_cases hu : u.tag = n
    · simp only [hu, if_true, hnone]
    · simp only [hu, Ne.symm hu, if_false]
  have hst (j : StationNo) : (match pairs.find? fun p => p.2 = j with
      | none => (assigned n i s).station j
      | some p => { (assigned n i s).station j with
          state := .assigned, unit := some p.1, family := (assigned n i s).familyOfUnit p.1 })
      = match ((n, i) :: pairs).find? fun p => p.2 = j with
        | none => s.station j
        | some p => { s.station j with state := .assigned, unit := some p.1, family := s.familyOfUnit p.1 } := by
    have hj : (assigned n i s).station j = if i = j
        then { s.station i with state := .assigned, unit := some n, family := s.familyOfUnit n } else s.station j :=
      State.setStation_station s i j _
    rw [hcons', hj]
    by_cases hij : i = j
    · subst hij
      simp only [if_true, hnone']
    · simp only [hij, if_false, familyOfUnit_assigned]
  simp only [assignPairs, hst]
  simp only [assigned, List.map_map, Function.comp_def, hunit, hqueue]

theorem assign_pairs_eq : pairsOf s = match idleStations s, s.tracker.degasQueue.filter s.eligible with
    | i :: rest, n :: left => (n, i) :: left.zip rest
    | _, _ => [] := by
  rw [pairsOf]
  cases idleStations s <;> cases s.tracker.degasQueue.filter s.eligible <;> rfl

theorem pairsOf_assign {rest : List StationNo} {left : List Nat} (hn : s.tracker.degasQueue.Nodup)
    (hidle : idleStations s = i :: rest) (hqueue : s.tracker.degasQueue.filter s.eligible = n :: left) :
    pairsOf (s.assign n i) = left.zip rest := by
  have heligible : (s.assign n i).eligible = s.eligible := funext fun m => eligible_assign m
  have hleft : (s.tracker.degasQueue.erase n).filter s.eligible = left := by
    have hnodup : (s.tracker.degasQueue.filter s.eligible).Nodup := List.Pairwise.filter _ hn
    rw [hqueue, List.nodup_cons] at hnodup
    rw [hn.erase_eq_filter, List.filter_filter]
    simp only [Bool.and_comm]
    rw [← List.filter_filter, hqueue, List.filter_cons_of_neg (by simp)]
    refine List.filter_eq_self.mpr fun m hm => ?_
    simp only [bne_iff_ne, ne_eq]
    rintro rfl
    exact hnodup.1 hm
  rw [pairsOf, idleStations_assign hidle, assign_degasQueue, heligible, hleft]

/-- R21, R22: the pass with fuel for every pair. -/
theorem assignUpTo_eq {k : Nat} (hn : s.tracker.degasQueue.Nodup) (hk : (pairsOf s).length ≤ k) :
    s.assignUpTo k = (pairsOf s).foldl (fun t p => t.raise (.unitAssigned p.1 p.2)) (assignPairs (pairsOf s) s) := by
  induction k generalizing s with
  | zero =>
    rw [List.length_eq_zero_iff.mp (Nat.le_zero.mp hk), assignPairs_nil]
    rfl
  | succ k ih =>
    unfold State.assignUpTo
    rw [nextAssignment_eq]
    cases hidle : idleStations s with
    | nil =>
      have hpairs : pairsOf s = [] := by rw [assign_pairs_eq, hidle]
      rw [hpairs, assignPairs_nil]
      rfl
    | cons i rest =>
      cases hqueue : s.tracker.degasQueue.filter s.eligible with
      | nil =>
        have hpairs : pairsOf s = [] := by rw [assign_pairs_eq, hidle, hqueue]
        rw [hpairs, assignPairs_nil]
        rfl
      | cons n left =>
        have hpairs : pairsOf s = (n, i) :: left.zip rest := by rw [assign_pairs_eq, hidle, hqueue]
        have hassign := pairsOf_assign hn hidle hqueue
        have htag : ∀ p ∈ left.zip rest, p.1 ≠ n := by
          have hnodup : (s.tracker.degasQueue.filter s.eligible).Nodup := List.Pairwise.filter _ hn
          rw [hqueue, List.nodup_cons] at hnodup
          rintro p hp rfl
          exact hnodup.1 (List.of_mem_zip hp).1
        have hstation : ∀ p ∈ left.zip rest, p.2 ≠ i := by
          have hnodup := idleStations_nodup (s := s)
          rw [hidle, List.nodup_cons] at hnodup
          rintro p hp rfl
          exact hnodup.1 (List.of_mem_zip hp).2
        have hrest := ih (s := s.assign n i) (by rw [assign_degasQueue]; exact hn.erase n)
          (by rw [hassign]; rw [hpairs, List.length_cons] at hk; omega)
        rw [hassign, assign_eq, assignPairs_raise, assignPairs_cons hn htag hstation] at hrest
        rw [hpairs, List.foldl_cons]
        exact hrest

theorem pairsOf_length : (pairsOf s).length ≤ 4 := by
  have h : (idleStations s).length ≤ allStations.length := List.length_filter_le _ _
  rw [pairsOf, List.length_zip]
  exact Nat.le_trans (Nat.min_le_right _ _) h

/-- R21: an eligible unit's class has a defined circuit gas whose family's receiver is IN_USE. -/
theorem eligible_iff {u : UnitRecord} (h : s.findUnit n = some u) : s.eligible n = true
    ↔ ∃ (k : Fin 32) (c : ClassEntry) (g : GasIndex) (e : GasEntry) (y : Cylinder), u.cls = k.val
      ∧ s.tracker.classes[k] = some c ∧ c.circuitGas = some g ∧ s.gases[g] = some e
      ∧ (s.receiver e.family).standing = .inUse y := by
  have hfamily : s.eligible n = match s.circuitFamily u.cls with
      | none => false
      | some f => (s.receiver f).standing.isInUse := by
    rw [State.eligible, h]; rfl
  rw [hfamily]
  constructor
  · intro he
    unfold State.circuitFamily State.classEntry State.gas at he
    by_cases hk : u.cls < 32
    · rw [dif_pos hk] at he
      cases hc : s.tracker.classes[u.cls] with
      | none => simp [hc] at he
      | some c =>
        cases hg : c.circuitGas with
        | none => simp [hc, hg] at he
        | some g =>
          cases hgas : s.gases[g] with
          | none => simp [hc, hg, hgas] at he
          | some e =>
            simp only [hc, hg, hgas, Option.map_some] at he
            cases hy : (s.receiver e.family).standing with
            | inUse y => exact ⟨⟨u.cls, hk⟩, c, g, e, y, rfl, hc, hg, hgas, hy⟩
            | full y => simp [hy, ReceiverStanding.isInUse] at he
            | swapping => simp [hy, ReceiverStanding.isInUse] at he
    · rw [dif_neg hk] at he
      cases he
  · rintro ⟨k, c, g, e, y, hk, hc, hg, hgas, hy⟩
    have hentry : s.classEntry u.cls = some c := by
      rw [State.classEntry, dif_pos (by omega)]
      simp only [hk]
      exact hc
    simp only [State.circuitFamily, hentry, hg, State.gas, hgas, Option.map_some, hy]
    rfl

end pass

/-- Settles O30, by the pass as one assignment of pairs. -/
theorem arbiterLeavesNothingToAssign : Obligations.ArbiterLeavesNothingToAssign := by
  intro s
  refine ⟨fun hm => if_neg hm, fun hm => ?_, fun n u hu => eligible_iff hu, fun hm hn => ?_⟩
  · have hpass : s.arbiterPass = s.assignUpTo 4 := if_pos hm
    rw [hpass]
    refine ⟨?_, assignUpTo_sublist, fun i j hij hi hk => assignUpTo_in_order hij hi hk⟩
    have hdone := assignUpTo_done (s := s) (k := 4) (List.length_filter_le _ allStations)
    rw [nextAssignment_eq] at hdone
    generalize s.assignUpTo 4 = t at hdone
    cases hidle : idleStations t with
    | nil => exact .inl fun i hi => List.not_mem_nil (hidle ▸ mem_idleStations.mpr hi)
    | cons i rest =>
      cases hqueue : t.tracker.degasQueue.filter t.eligible with
      | nil => exact .inr fun n hn => Bool.eq_false_iff.mpr (List.filter_eq_nil_iff.mp hqueue n hn)
      | cons n left =>
        rw [hidle, hqueue] at hdone
        cases hdone
  · rw [show s.arbiterPass = s.assignUpTo 4 from if_pos hm, assignUpTo_eq hn pairsOf_length]
    rfl

end Sys2Proof.Proofs.Arbiter

/-! # The recovery receivers (3.3 to 3.5), and the causes handed to the stations (2.8) -/

namespace Sys2Proof.Proofs.Receivers
open Sys2Proof Sys2Proof.Machine Sys2Proof.Proofs.Frames Sys2Proof.Proofs.Steps Sys2Proof.Proofs.Requests
open Sys2Proof.Proofs.Fields Sys2Proof.Proofs.Stations Sys2Proof.Proofs.Scanning Sys2Proof.Proofs.Arbiter
open Sys2Proof.Proofs.GoOffline (mem_allStations)
open Sys2Proof.Proofs.Soundness (station_of_same)

set_option Elab.async false

/-! ### A change at each station by itself -/

section folds
variable {s : State} {f : State → StationNo → State} {G : StationNo → Station → Station} {P : State → Prop}

theorem setStation_self (i : StationNo) : s.setStation i (s.station i) = s := by
  simp [State.setStation, State.station]

/-- A fold that changes each station by itself. -/
theorem foldl_station (h : ∀ t i, P t → f t i = t.setStation i (G i (t.station i)))
    (hP : ∀ t i x, P t → P (t.setStation i x)) (hs : P s) (j : StationNo) :
    (allStations.foldl f s).station j = G j (s.station j) := by
  have hlist (l : List StationNo) (hl : l.Nodup) (t : State) (ht : P t) :
      (l.foldl f t).station j = if j ∈ l then G j (t.station j) else t.station j := by
    induction l generalizing t with
    | nil => rfl
    | cons i l ih =>
      rw [List.nodup_cons] at hl
      rw [List.foldl_cons, h t i ht, ih hl.2 _ (hP t i _ ht), State.setStation_station]
      by_cases hij : i = j
      · subst hij
        simp [hl.1]
      · simp [hij, Ne.symm hij]
  rw [hlist allStations (by decide) s hs, if_pos (mem_allStations j)]

/-- R45: a cause handed to the EVACUATING stations of a family. -/
theorem handCauseToAll_station (c : Causes) (family : Family) (i : StationNo) :
    (s.handCauseToAll c family).station i
      = if (s.station i).state = .evacuating ∧ (s.station i).family = some family then (s.station i).suspendFor c
        else s.station i := by
  refine foldl_station (P := fun _ => True) (G := fun _ st => if st.state = .evacuating ∧ st.family = some family
    then st.suspendFor c else st) (fun t j _ => ?_) (fun _ _ _ _ => trivial) trivial i
  unfold State.handCause
  dsimp only
  split
  · rfl
  · exact (setStation_self j).symm

/-- R42, R36: a SUSPENDED station that loses a cause. -/
def released (c blockers : Causes) (st : Station) : Station :=
  if st.state = .suspended then
    if (st.causes.without c).isEmpty then ({ st with causes := st.causes.without c } : Station).enterEvacuation blockers
    else { st with causes := st.causes.without c }
  else st

theorem removeCause_eq (c : Causes) (i : StationNo) :
    s.removeCause c i = s.setStation i (released c (s.blockers (s.station i).family) (s.station i)) := by
  unfold State.removeCause released
  dsimp only
  by_cases hs : (s.station i).state = .suspended
  · simp only [hs, if_true]
    split
    · rw [entryCheck_setStation]
    · rfl
  · simp only [hs, if_false, setStation_self]

theorem removeReceiverCause_station (family : Family) (i : StationNo) :
    (s.removeReceiverCause family).station i
      = if (s.station i).family = some family
        then released .ofReceiver (s.blockers (s.station i).family) (s.station i) else s.station i := by
  refine foldl_station (P := fun t => t.blockers = s.blockers) (G := fun _ st => if st.family = some family
    then released .ofReceiver (s.blockers st.family) st else st) (fun t j ht => ?_)
    (fun t j x ht => (funext fun _ => blockers_setStation j x _).trans ht) rfl i
  by_cases hf : (t.station j).family = some family
  · simp only [hf, if_true]
    rw [removeCause_eq, ht, hf]
  · simp only [hf, if_false, setStation_self]

theorem removeTripCause_station (i : StationNo) :
    s.removeTripCause.station i = released .ofTrip (s.blockers (s.station i).family) (s.station i) := by
  refine foldl_station (P := fun t => t.blockers = s.blockers) (G := fun _ st => released .ofTrip (s.blockers st.family) st)
    (fun t j ht => ?_) (fun t j x ht => (funext fun _ => blockers_setStation j x _).trans ht) rfl i
  rw [removeCause_eq, ht]

end folds

/-! ### Fill detection (3.3) -/

section fill
variable {s : State} {f : Family}

theorem usable_iff (c : Condition) : c.usable = decide (c = .valid ∨ c = .held) := by cases c <;> rfl

theorem reachedLimit_iff {r : Receiver} {c : Cylinder} (h : r.standing = .inUse c) :
    r.reachedLimit = true ↔ ∃ w, r.weight = some w ∧ (r.fillLimit : Int) ≤ w - (c.tare : Int) := by
  rw [Receiver.reachedLimit, Receiver.netWeight, h, ReceiverStanding.cylinder]
  cases r.weight <;> simp

theorem weigh_eq (x : RoleReading) (r : Receiver) : r.weigh x = { r with
    weight := if decide (x.condition = .valid ∨ x.condition = .held) then some x.value else none
    weightCondition := some x.condition } := by
  rw [Receiver.weigh, usable_iff]

/-- R64: a receiver below its limit, or not IN_USE, stays. -/
theorem detectFill_below (h : ∀ c, (s.receiver f).standing = .inUse c → (s.receiver f).reachedLimit = false) :
    s.detectFill f = s := by
  unfold State.detectFill
  dsimp only
  split
  · rename_i c hc
    rw [if_neg (Bool.eq_false_iff.mp (h c hc))]
  · rfl

theorem detectFill_full {c : Cylinder} (hc : (s.receiver f).standing = .inUse c) (hr : (s.receiver f).reachedLimit = true) :
    ∃ x, s.detectFill f = (((s.setReceiver f { s.receiver f with standing := .full c }).handCauseToAll .ofReceiver f).noteStations
      s.stations).raise x := by
  unfold State.detectFill
  simp only [hc, hr, if_true]
  exact ⟨_, rfl⟩

/-- What an event leaves, block by block: what acted, with the outputs and the line settled. -/
theorem settle_eq_with {v : State}
    (d : Differs [.tracker, .stations, .receivers, .chamber, .shift, .protection, .mode, .notices] s v) :
    v.settle = { s with
      tracker := v.tracker, stations := v.stations, receiverF := v.receiverF, receiverH := v.receiverH, chamber := v.chamber
      shift := v.shift, protection := v.protection, link := v.settle.link, pins := v.driven } := by
  rw [show v.settle = { v with link := v.settle.link, pins := v.driven } from rfl]
  generalize v.settle.link = l
  generalize v.driven = pins
  rw [d.eq_with]

end fill

/-- Settles O40: the weight is kept, and the fill limit tested. -/
theorem receiverScanDetectsTheFill : Obligations.ReceiverScanDetectsTheFill := by
  intro f x s hcauses hx reading read weighed full
  have hweigh : ((s.taking (.receiver f)).receiver f).weigh reading = weighed := weigh_eq _ _
  have hexec := exec_taken (i := .receiverScan f) rfl hx
  rw [State.receiverScan, hweigh] at hexec
  have hreceiver : ((s.taking (.receiver f)).setReceiver f weighed).receiver f = weighed := State.setReceiver_receiver_self ..
  refine ⟨fun hbelow => ?_, fun c hc hfull => ?_⟩
  · rw [hexec, detectFill_below fun c hc => ?_]
    rw [hreceiver] at hc ⊢
    refine Bool.eq_false_iff.mpr fun h => hbelow c hc ?_
    obtain ⟨w, hw, hl⟩ := (reachedLimit_iff hc).mp h
    cases hread : read with
    | false => simp [weighed, hread] at hw
    | true =>
      obtain rfl : reading.value = w := by simpa [weighed, hread] using hw
      exact ⟨hread, hl⟩
  · obtain ⟨hread, hl⟩ := hfull
    have hreached : weighed.reachedLimit = true :=
      (reachedLimit_iff (r := weighed) hc).mpr ⟨reading.value, by simp [weighed, hread], hl⟩
    obtain ⟨u, hu⟩ : ∃ u, u = (s.taking (.receiver f)).setReceiver f weighed := ⟨_, rfl⟩
    have hur : u.receiver f = weighed := by rw [hu]; exact hreceiver
    obtain ⟨n, hn⟩ := detectFill_full (s := u) (f := f) (c := c) (by rw [hur]; exact hc) (by rw [hur]; exact hreached)
    rw [← hu, hn, hur] at hexec
    obtain ⟨r, hr⟩ : ∃ r, r = u.setReceiver f { weighed with standing := .full c } := ⟨_, rfl⟩
    rw [← hr] at hexec
    have hdr : Differs [.receivers] (s.taking (.receiver f)) r := by
      rw [hr, hu]; exact (setReceiver_differs.seq setReceiver_differs).within
    have hdv : Differs [.stations, .notices] r (((r.handCauseToAll .ofReceiver f).noteStations u.stations).raise n) :=
      ((handCauseToAll_differs.seq noteStations_differs).seq raise_differs).within
    have hd := (hdr.seq hdv).within (k' := [.stations, .receivers, .notices])
    have hstation (i : StationNo) : (((r.handCauseToAll .ofReceiver f).noteStations u.stations).raise n).station i
        = if (r.station i).state = .evacuating ∧ (r.station i).family = some f then (r.station i).suspendFor .ofReceiver
          else r.station i := by
      rw [raise_differs.station i, noteStations_differs.station i, handCauseToAll_station]
    generalize ((r.handCauseToAll .ofReceiver f).noteStations u.stations).raise n = v at hexec hdv hd hstation
    refine ⟨v.settle, hexec, ?_, fun g hg => ?_, fun i => ?_, ?_, ?_, ?_, ?_⟩
    · rw [State.settle_receiver, hdv.receiver, hr, State.setReceiver_receiver_self]
    · rw [State.settle_receiver, hdv.receiver, hr, hu, State.setReceiver_receiver, if_neg (Ne.symm hg),
        State.setReceiver_receiver, if_neg (Ne.symm hg)]
      cases g <;> rfl
    · rw [State.settle_station, hstation, hdr.station i]
      have htaking : (s.taking (.receiver f)).station i = s.station i := rfl
      rw [htaking]
      split
      · rename_i h
        rw [Station.suspendFor, causes_of_not_suspended hcauses (by rw [h.1]; exact fun e => nomatch e)]
        rfl
      · rfl
    · rw [State.settle_link, Link.arbitrate_mode, hd.mode]; rfl
    · rw [State.settle_link, Link.arbitrate_requests, hd.requests]; rfl
    · rw [State.settle_link, Link.arbitrate_enables, hd.enables]; rfl
    · rw [settle_eq_with hd.within, hd.tracker, hd.chamber, hd.shift, hd.protection]
      rfl

/-! ### BEGIN_SWAP and END_SWAP (3.4) -/

section swaps
variable {s : State} {f : Family}

theorem readReceiver_bytes (f : Family) : readReceiver (leBytes 1 (familyCode f)) = some f := by
  rw [readReceiver, ofLength_eq (by simp), familyAt_last]

theorem familyEvacuating_iff : s.familyEvacuating f = true
    ↔ ∃ i, (s.station i).state = .evacuating ∧ (s.station i).family = some f := by
  simp [State.familyEvacuating, mem_allStations]

theorem handleBeginSwap_refused (h : (s.receiver f).standing = .swapping ∨ s.familyEvacuating f = true) :
    handleBeginSwap f s = s.refuse .wrongState := by
  unfold handleBeginSwap
  dsimp only
  split
  · rfl
  · rename_i c hc
    obtain h | h := h
    · rw [h] at hc; cases hc
    · rw [if_pos h]

/-- R67: the cylinder that is taken off, and what is kept of it. -/
theorem handleBeginSwap_closes {c : Cylinder} (hc : (s.receiver f).standing = .inUse c ∨ (s.receiver f).standing = .full c)
    (he : s.familyEvacuating f = false) :
    let net := (s.receiver f).weight.map fun w => w - (c.tare : Int)
    let closed : ClosedCylinder :=
      { serial := c.serial, tare := c.tare, netWeighed := net, delivered := c.delivered / 1000000
        difference := net.map fun n => n * 1000 - ((c.delivered / 1000000 : Nat) : Int) }
    handleBeginSwap f s = ((s.setReceiver f { s.receiver f with standing := .swapping, lastClosed := some closed }).raise
      (.receiverState f .swapping none none none), ⟨.done, closed.bytes⟩) := by
  intro net closed
  have hcylinder : (s.receiver f).standing.cylinder = some c := by obtain h | h := hc <;> rw [h] <;> rfl
  have hnet : (s.receiver f).netWeight = net := by
    rw [Receiver.netWeight, hcylinder]
    cases hw : (s.receiver f).weight <;> simp [net, hw]
  have hclosed : (s.receiver f).closeCylinder c = closed := by
    simp only [Receiver.closeCylinder, hnet]
    rfl
  unfold handleBeginSwap
  simp only [hcylinder, he, Bool.false_eq_true, if_false, hclosed]
  rfl

theorem handleEndSwap_wrongState {n : Nat} (h : (s.receiver f).standing ≠ .swapping) :
    handleEndSwap (f, n) s = s.refuse .wrongState := by
  unfold handleEndSwap
  dsimp only
  split
  · rename_i hs; exact absurd hs h
  · rfl

theorem handleEndSwap_notReady {n : Nat} (h : (s.receiver f).standing = .swapping)
    (hw : (s.receiver f).weight = none ∨ (s.receiver f).weightCondition ≠ some .valid) :
    handleEndSwap (f, n) s = s.refuse .notReady := by
  unfold handleEndSwap
  simp only [h]
  split
  · rfl
  · rename_i w hsome
    obtain hw | hw := hw
    · rw [hw] at hsome; cases hsome
    · rw [if_pos hw]

theorem handleEndSwap_weighed {n : Nat} {w : Int} (h : (s.receiver f).standing = .swapping)
    (hw : (s.receiver f).weight = some w) (hc : (s.receiver f).weightCondition = some .valid) :
    handleEndSwap (f, n) s = if w < 0 then s.refuse .outOfRange
      else (s.beginCylinder f ⟨n, w.toNat, 0⟩, ⟨.done, leBytes 4 n ++ leBytes 4 w.toNat ++ leBytes 8 0⟩) := by
  unfold handleEndSwap
  simp only [h, hw, hc, ne_eq, not_true_eq_false, if_false]

/-! ### What a station loses a cause to (2.8) -/

theorem released_of_not_suspended {c b : Causes} {st : Station} (h : st.state ≠ .suspended) : released c b st = st := if_neg h

theorem released_left {c b : Causes} {st : Station} (h : st.state = .suspended) (hne : st.causes.without c ≠ .empty) :
    released c b st = { st with causes := st.causes.without c } := by
  have he : (st.causes.without c).isEmpty = false := decide_eq_false hne
  rw [released, if_pos h, he]
  rfl

theorem without_receiver (c : Causes) : c.without .ofReceiver = { c with receiver := false } := by
  simp [Causes.without, Causes.ofReceiver]

theorem without_receiver_ne {c : Causes} (hr : c.receiver = true) (h : c ≠ ⟨false, true, false⟩) :
    c.without .ofReceiver ≠ .empty := by
  obtain ⟨requested, receiver, trip⟩ := c
  rw [without_receiver]
  intro e
  obtain ⟨rfl, -, rfl⟩ := Causes.mk.inj e
  exact h (by rw [← hr])

/-- R36, R42: a cause set that empties lets the station evacuate again, or leaves it to what blocks it. -/
theorem released_emptied {c b : Causes} {st : Station} (h : st.state = .suspended) (he : st.causes.without c = .empty) :
    released c b st = if b = .empty then { st with state := .evacuating, causes := .empty } else { st with causes := b } := by
  have hu : Causes.empty.union b = b := rfl
  have hempty : Causes.empty.isEmpty = true := rfl
  rw [released, if_pos h, he, if_pos hempty, Station.enterEvacuation, hu, h]
  by_cases hb : b = .empty
  · have hbe : b.isEmpty = true := decide_eq_true hb
    rw [if_pos hb, if_pos hbe]
  · have hbe : ¬ b.isEmpty = true := by rw [Causes.isEmpty, decide_eq_true_eq]; exact hb
    rw [if_neg hb, if_neg hbe, if_pos rfl]

theorem released_idle {c b : Causes} {st : Station} : (released c b st).state = .idle ↔ st.state = .idle := by
  by_cases h : st.state = .suspended
  · by_cases he : st.causes.without c = .empty
    · rw [released_emptied h he]
      split <;> simp [h]
    · rw [released_left h he]
  · rw [released_of_not_suspended h]

/-! ### A cylinder begun (3.5) -/

/-- R68: the state in which the arbiter makes its pass after END_SWAP. -/
def cylinderBegun (f : Family) (c : Cylinder) (s : State) : State :=
  let t := s.setReceiver f { s.receiver f with standing := .inUse c }
  let t := (t.removeReceiverCause f).noteStations s.stations
  t.raise ((t.receiver f).notice f)

theorem beginCylinder_eq (c : Cylinder) : s.beginCylinder f c
    = (cylinderBegun f c s).arbiterPass.noteStations (cylinderBegun f c s).stations := rfl

theorem cylinderBegun_differs (c : Cylinder) : Differs [.stations, .receivers, .notices] s (cylinderBegun f c s) :=
  (((setReceiver_differs.seq removeReceiverCause_differs).seq noteStations_differs).seq raise_differs).within

theorem cylinderBegun_receiver (c : Cylinder) (g : Family) : (cylinderBegun f c s).receiver g
    = if f = g then { s.receiver f with standing := .inUse c } else s.receiver g := by
  rw [cylinderBegun]
  dsimp only
  rw [raise_differs.receiver, noteStations_differs.receiver, removeReceiverCause_differs.receiver, State.setReceiver_receiver]

theorem cylinderBegun_station (c : Cylinder) (i : StationNo) : (cylinderBegun f c s).station i
    = if (s.station i).family = some f then released .ofReceiver
        ⟨false, false, decide (s.link.mode = .tripped) && decide (f = .hydrocarbon)⟩ (s.station i) else s.station i := by
  have hb : (s.setReceiver f { s.receiver f with standing := .inUse c }).blockers (some f)
      = ⟨false, false, decide (s.link.mode = .tripped) && decide (f = .hydrocarbon)⟩ := by
    simp only [State.blockers, State.setReceiver_receiver_self, State.setReceiver_link]
    rfl
  rw [cylinderBegun]
  dsimp only
  rw [raise_differs.station, noteStations_differs.station, removeReceiverCause_station, State.setReceiver_station]
  split
  · rename_i h
    rw [h, hb]
  · rfl

end swaps

/-- Settles O41: the cylinder closed and begun, and the stations that lose RECEIVER. -/
theorem swapsCloseAndBeginCylinders : Obligations.SwapsCloseAndBeginCylinders := by
  refine ⟨fun tag f s ht => ⟨fun h => ?_, fun c hc he => ?_⟩, fun tag f n s hn hcauses => ?_⟩
  · refine exec_reading (t := s.takeFromQueue) (reply := .bare .wrongState) rfl rfl ht (readReceiver_bytes f)
      (handleBeginSwap_refused ?_)
    rw [State.takeFromQueue_receiver]
    exact h.imp_right familyEvacuating_iff.mpr
  · have hclose := handleBeginSwap_closes (s := s.takeFromQueue) (f := f) (c := c)
      (by rw [State.takeFromQueue_receiver]; exact hc) (Bool.eq_false_iff.mpr fun e => he (familyEvacuating_iff.mp e))
    rw [State.takeFromQueue_receiver] at hclose
    exact exec_reading rfl rfl ht (readReceiver_bytes f) hclose
  · intro payload ht refused
    have hread := readReceiverAndNumber_bytes f hn
    have hreceiver := State.takeFromQueue_receiver s f
    refine ⟨fun h => ?_, fun h hw => ?_, fun w h hw hc => ⟨fun hneg => ?_, fun hpos => ?_⟩⟩
    · exact exec_reading (t := s.takeFromQueue) (reply := .bare .wrongState) rfl rfl ht hread
        (handleEndSwap_wrongState (by rw [hreceiver]; exact h))
    · exact exec_reading (t := s.takeFromQueue) (reply := .bare .notReady) rfl rfl ht hread
        (handleEndSwap_notReady (by rw [hreceiver]; exact h) (by rw [hreceiver]; exact hw))
    · refine exec_reading (t := s.takeFromQueue) (reply := .bare .outOfRange) rfl rfl ht hread
        ((handleEndSwap_weighed (by rw [hreceiver]; exact h) (by rw [hreceiver]; exact hw) (by rw [hreceiver]; exact hc)).trans ?_)
      rw [if_pos hneg]; rfl
    · have hhandled := handleEndSwap_weighed (n := n) (s := s.takeFromQueue) (by rw [hreceiver]; exact h)
        (by rw [hreceiver]; exact hw) (by rw [hreceiver]; exact hc)
      rw [if_neg (Int.not_lt.mpr hpos)] at hhandled
      refine ⟨s.takeFromQueue.beginCylinder f ⟨n, w.toNat, 0⟩, exec_reading rfl rfl ht hread hhandled, ?_⟩
      rw [beginCylinder_eq]
      have hdiff := cylinderBegun_differs (s := s.takeFromQueue) (f := f) ⟨n, w.toNat, 0⟩
      have hrec := cylinderBegun_receiver (s := s.takeFromQueue) (f := f) ⟨n, w.toNat, 0⟩
      have hst := cylinderBegun_station (s := s.takeFromQueue) (f := f) ⟨n, w.toNat, 0⟩
      simp only [State.takeFromQueue_receiver, State.takeFromQueue_station, State.takeFromQueue_link_mode] at hrec hst
      have hst_in (i : StationNo) (h : (s.station i).family = some f) := (hst i).trans (if_pos h)
      have hst_out (i : StationNo) (h : (s.station i).family ≠ some f) := (hst i).trans (if_neg h)
      clear hst
      generalize cylinderBegun f ⟨n, w.toNat, 0⟩ s.takeFromQueue = u at hdiff hrec hst_in hst_out ⊢
      have hst_same (i : StationNo) (h : (s.station i).family = some f → (s.station i).state ≠ .suspended) :
          u.station i = s.station i := by
        by_cases hf : (s.station i).family = some f
        · rw [hst_in i hf, released_of_not_suspended (h hf)]
        · exact hst_out i hf
      have hpass : Differs [.tracker, .stations, .notices] u (u.arbiterPass.noteStations u.stations) :=
        (arbiterPass_differs.seq noteStations_differs).within
      have htracker : (u.arbiterPass.noteStations u.stations).tracker = u.arbiterPass.tracker := noteStations_differs.tracker
      have hstations : (u.arbiterPass.noteStations u.stations).stations = u.arbiterPass.stations := noteStations_differs.stations
      have hidle (i : StationNo) : (u.station i).state = .idle ↔ (s.station i).state = .idle := by
        by_cases hf : (s.station i).family = some f
        · rw [hst_in i hf]; exact released_idle
        · rw [hst_out i hf]
      have hworking (i : StationNo) (hi : (s.station i).state ≠ .idle) :
          (u.arbiterPass.noteStations u.stations).station i = u.station i := by
        rw [noteStations_differs.station i, arbiterPass_station (mt (hidle i).mp hi)]
      have hall := hdiff.seq hpass
      generalize u.arbiterPass.noteStations u.stations = t at hpass htracker hstations hworking hall ⊢
      refine ⟨?_, fun g hg => ?_, fun i hs hf hr => ?_, fun i hno hi => ?_, fun hm => ?_, ⟨u, htracker, hstations, ?_, ?_,
        fun i hi => ?_, fun i hi => (hworking i hi).symm, ?_⟩, ?_⟩
      · rw [hpass.receiver, hrec, if_pos rfl]
      · rw [hpass.receiver, hrec, if_neg (Ne.symm hg)]
      · rw [hworking i (by rw [hs]; exact fun e => nomatch e), hst_in i hf]
        refine ⟨fun hne => ?_, fun he hfree => ?_, fun he hm hh => ?_⟩
        · rw [released_left hs (without_receiver_ne hr hne), without_receiver]
        · rw [released_emptied hs (by rw [he]; rfl)]
          refine if_pos ?_
          obtain hfree | hfree := hfree
          · simp [hfree, Causes.empty]
          · simp [hfree, Causes.empty]
        · rw [released_emptied hs (by rw [he]; rfl)]
          simp [hm, hh, Causes.empty]
      · rw [hworking i hi]
        by_cases hf : (s.station i).family = some f
        · rw [hst_in i hf]
          by_cases hs : (s.station i).state = .suspended
          · have hr : (s.station i).causes.receiver = false := by simpa [hs, hf] using hno
            have hwithout : (s.station i).causes.without .ofReceiver = (s.station i).causes := by
              rw [without_receiver, ← hr]
            rw [released_left hs (by rw [hwithout]; exact (hcauses i).mpr hs), hwithout]
          · exact released_of_not_suspended hs
        · exact hst_out i hf
      · have hsame : u.arbiterPass = u := if_neg (by rw [hdiff.mode]; exact hm)
        rw [hsame] at htracker hstations
        refine ⟨htracker.trans hdiff.tracker, fun i hi => ?_⟩
        rw [station_of_same (t := t) (s := u) hstations, hst_same i fun _ => by rw [hi]; exact fun e => nomatch e]
      · rw [hrec, if_pos rfl]
      · rw [hdiff.mode]; rfl
      · exact hst_same i fun _ => by rw [hi]; exact fun e => nomatch e
      · rw [hdiff.within.eq_with, hdiff.tracker, hdiff.chamber, hdiff.shift, hdiff.protection, hpass.receiverF, hpass.receiverH]
        rfl
      · rw [hall.within.eq_with, hall.chamber, hall.shift, hall.protection]
        rfl

end Sys2Proof.Proofs.Receivers

/-! # The trip of the line, its entry and its clearance (7.3 to 7.6) -/

namespace Sys2Proof.Proofs.Trips
open Sys2Proof Sys2Proof.Machine Sys2Proof.Proofs.Frames Sys2Proof.Proofs.Steps Sys2Proof.Proofs.Requests
open Sys2Proof.Proofs.Fields Sys2Proof.Proofs.Stations Sys2Proof.Proofs.Scanning Sys2Proof.Proofs.Arbiter
open Sys2Proof.Proofs.Receivers Sys2Proof.Proofs.LineModes
open Sys2Proof.Proofs.Soundness (station_of_same)

set_option Elab.async false

/-! ### CLEAR_TRIP (7.6) -/

section clearing
variable {s : State}

/-- R146: the line in RUNNING, no cause held and the chamber STOPPED; the stations have not lost TRIP yet. -/
def backInRunning (s : State) : State :=
  ((s.setProtection { s.protection with causes := .empty, clearHold := none }).setLink { s.link with mode := .running }).clearChamber

theorem holdReached_iff : s.holdReached = true
    ↔ ∃ m, s.protection.clearHold = some m ∧ s.protection.limits.clearHold * 10000 ≤ s.now - m := by
  unfold State.holdReached
  cases s.protection.clearHold with
  | none => simp
  | some m =>
    simp only [Option.some.injEq, exists_eq_left']
    exact decide_eq_true_iff

/-- R146: the state in which the arbiter makes its pass after CLEAR_TRIP. -/
def tripCleared (s : State) : State :=
  ((backInRunning s).removeTripCause.noteStations s.stations).raise (.tripCleared s.protection.causes)

theorem clearTrip_eq : s.clearTrip = (tripCleared s).arbiterPass.noteStations (tripCleared s).stations := rfl

theorem clearChamber_eq (h : s.chamber.standing = .halted) :
    s.clearChamber = s.setChamber { s.chamber with standing := .stopped } := by
  unfold State.clearChamber; rw [h]

theorem backInRunning_eq (h : s.chamber.standing = .halted) : backInRunning s = { s with
    protection := { s.protection with causes := .empty, clearHold := none }, link := { s.link with mode := .running }
    chamber := { s.chamber with standing := .stopped } } :=
  clearChamber_eq (s := (s.setProtection _).setLink _) h

theorem tripCleared_differs : Differs [.stations, .notices] (backInRunning s) (tripCleared s) :=
  ((removeTripCause_differs.seq noteStations_differs).seq raise_differs).within

theorem tripCleared_station (h : s.chamber.standing = .halted) (i : StationNo) :
    (tripCleared s).station i = released .ofTrip ⟨false, s.receiverBlocks i, false⟩ (s.station i) := by
  have hstation : (backInRunning s).station i = s.station i := by rw [backInRunning_eq h]; rfl
  have hblockers : (backInRunning s).blockers (s.station i).family = ⟨false, s.receiverBlocks i, false⟩ := by
    rw [← hstation, blockers_running (by rw [backInRunning_eq h]), backInRunning_eq h]
    rfl
  rw [tripCleared, raise_differs.station, noteStations_differs.station, removeTripCause_station, hstation, hblockers]

theorem without_trip (c : Causes) : c.without .ofTrip = { c with trip := false } := by
  simp [Causes.without, Causes.ofTrip]

theorem without_trip_ne {c : Causes} (hr : c.trip = true) (h : c ≠ ⟨false, false, true⟩) : c.without .ofTrip ≠ .empty := by
  obtain ⟨requested, receiver, trip⟩ := c
  rw [without_trip]
  intro e
  obtain ⟨rfl, rfl, -⟩ := Causes.mk.inj e
  exact h (by rw [← hr])

end clearing

/-- Settles O52: CLEAR_TRIP, in each line mode. -/
theorem clearTripReturnsToRunning : Obligations.ClearTripReturnsToRunning := by
  intro tag s ht hmode hcauses refused
  have answered {t : State} {r : Reply} (h : handleClearTrip s.takeFromQueue = (t, r)) :=
    exec_reading (i := .clearTrip tag []) (a := ()) rfl rfl ht rfl h
  have refuses {st : Status} (h : handleClearTrip s.takeFromQueue = s.takeFromQueue.refuse st) : refused st := answered h
  refine ⟨fun h => refuses ?_, fun h => refuses ?_, fun h hearly => refuses ?_, fun m h hm hlate => ?_⟩
  · rw [handleClearTrip, State.takeFromQueue_link_mode, h]
  · rw [handleClearTrip, State.takeFromQueue_link_mode, h]
  · rw [handleClearTrip, State.takeFromQueue_link_mode, h]
    exact if_neg (mt holdReached_iff.mp fun ⟨m, hm, hlate⟩ => Nat.not_le_of_gt (hearly m hm) hlate)
  · obtain ⟨-, hhalted⟩ := hmode.2.1 h
    have hreached : s.takeFromQueue.holdReached = true := holdReached_iff.mpr ⟨m, hm, hlate⟩
    refine ⟨s.takeFromQueue.clearTrip, answered (r := .bare .done) ?_, ?_⟩
    · rw [handleClearTrip, State.takeFromQueue_link_mode, h]
      exact if_pos hreached
    rw [clearTrip_eq]
    have hdiff := tripCleared_differs (s := s.takeFromQueue)
    have hst := tripCleared_station (s := s.takeFromQueue) hhalted
    rw [backInRunning_eq (s := s.takeFromQueue) hhalted] at hdiff
    have hst (i : StationNo) : (tripCleared s.takeFromQueue).station i
        = released .ofTrip ⟨false, s.receiverBlocks i, false⟩ (s.station i) := hst i
    generalize tripCleared s.takeFromQueue = u at hdiff hst ⊢
    have hpass : Differs [.tracker, .stations, .notices] u (u.arbiterPass.noteStations u.stations) :=
      (arbiterPass_differs.seq noteStations_differs).within
    have htracker : (u.arbiterPass.noteStations u.stations).tracker = u.arbiterPass.tracker := noteStations_differs.tracker
    have hstations : (u.arbiterPass.noteStations u.stations).stations = u.arbiterPass.stations := noteStations_differs.stations
    have hidle (i : StationNo) : (u.station i).state = .idle ↔ (s.station i).state = .idle := by
      rw [hst]; exact released_idle
    have hworking (i : StationNo) (hi : (s.station i).state ≠ .idle) :
        (u.arbiterPass.noteStations u.stations).station i = u.station i := by
      rw [noteStations_differs.station i, arbiterPass_station (mt (hidle i).mp hi)]
    have hall := hdiff.seq hpass
    generalize u.arbiterPass.noteStations u.stations = t at hpass htracker hstations hworking hall ⊢
    refine ⟨hall.mode, hall.protection, hall.chamber, ?_, fun i hs hi => ?_, fun i hno hi => ?_, hall.shift,
      ⟨u, htracker, hstations, hdiff.mode, fun i hi => ?_, fun i hi => (hworking i hi).symm, ?_⟩, ?_⟩
    · rw [State.driven, hall.chamber]; rfl
    · rw [hworking i (by rw [hs]; exact fun e => nomatch e), hst]
      refine ⟨fun hne => ?_, fun he hfree => ?_, fun he hblocked => ?_⟩
      · rw [released_left hs (without_trip_ne hi hne), without_trip]
      · rw [released_emptied hs (by rw [he]; rfl), hfree]; rfl
      · rw [released_emptied hs (by rw [he]; rfl), hblocked]; rfl
    · rw [hworking i hi, hst]
      by_cases hs : (s.station i).state = .suspended
      · have hi : (s.station i).causes.trip = false := by simpa [hs] using hno
        have hwithout : (s.station i).causes.without .ofTrip = (s.station i).causes := by
          rw [without_trip, ← hi]
        rw [released_left hs (by rw [hwithout]; exact (hcauses i).mpr hs), hwithout]
      · exact released_of_not_suspended hs
    · rw [hst]; exact released_of_not_suspended (by rw [hi]; exact fun e => nomatch e)
    · rw [hdiff.within.eq_with, hdiff.tracker, hdiff.shift, hdiff.receiverF, hdiff.receiverH, hdiff.protection, hdiff.chamber,
        hall.protection, hall.chamber]
      rfl
    · rw [hall.within.eq_with, hall.shift, hall.receiverF, hall.receiverH, hall.protection, hall.chamber]
      rfl

end Sys2Proof.Proofs.Trips

/-! # The end of a charge: its units closed and its record kept (1.2.2, 4.6, 6.1 to 6.4) -/

namespace Sys2Proof.Proofs.Closing
open Sys2Proof Sys2Proof.Machine Sys2Proof.Proofs.Frames Sys2Proof.Proofs.Steps
open Sys2Proof.Proofs.Stations Sys2Proof.Proofs.Arbiter Sys2Proof.Proofs.Probing
open Sys2Proof.Proofs.Soundness (updateBaseline_eq)
open Sys2Proof.Proofs.Apportionment (shares_length shares_sum)

set_option Elab.async false

/-! ### What the chamber reports of a unit (1.2.2) -/

section marks
variable {u : UnitRecord} {s : State} {k : Fin 32} {c : ClassEntry}

/-- R6: a severe anomaly reported. -/
def noted (a : Anomaly) (u : UnitRecord) : UnitRecord :=
  { u with
    anomalies := if a ∈ u.anomalies ∨ 4 ≤ u.anomalies.length then u.anomalies else u.anomalies ++ [a]
    truncated := u.truncated || decide (a ∉ u.anomalies ∧ 4 ≤ u.anomalies.length)
    severe := true }

/-- R13: the anomalies that the flags of a charge report. -/
def marked (f : ChargeFlags) (u : UnitRecord) : UnitRecord :=
  let cut := if f.truncated then noted .chargeTruncated u else u
  if f.signalLost then noted .chargeSignalLost cut else cut

theorem report_severe {a : Anomaly} (h : a.severe = true) : u.report a = noted a u := by
  rw [report_eq, h, Bool.or_true]; rfl

theorem atChargeEnd_eq (share : Nat) (f : ChargeFlags) : u.atChargeEnd share f = { marked f u with share := some share } := by
  unfold UnitRecord.atChargeEnd marked
  simp only [report_severe (show Anomaly.severe .chargeTruncated = true from rfl),
    report_severe (show Anomaly.severe .chargeSignalLost = true from rfl)]
  cases f.truncated <;> cases f.signalLost <;> rfl

theorem marked_keeps (f : ChargeFlags) : marked f u = { u with
    anomalies := (marked f u).anomalies, truncated := (marked f u).truncated, severe := (marked f u).severe } := by
  unfold marked; cases f.truncated <;> cases f.signalLost <;> rfl

theorem marked_severe (f : ChargeFlags) : (marked f u).severe = (u.severe || f.truncated || f.signalLost) := by
  unfold marked; cases f.truncated <;> cases f.signalLost <;> simp [noted]

theorem classEntry_of (hk : u.cls = k.val) (hc : s.tracker.classes[k] = some c) : s.classEntry u.cls = some c := by
  rw [State.classEntry, dif_pos (by omega)]
  simpa [hk] using hc

/-! ### The figures and the verdict (6.3) -/

theorem recoveryRatio_eq (h : s.classEntry u.cls = some c) : s.recoveryRatio u = if c.circuitGas = none then none
    else u.nameplate.bind fun g => u.degas.map fun d => min (d.recovered / g) 1999 := by
  unfold State.recoveryRatio
  simp only [h]
  cases c.circuitGas <;> cases u.nameplate <;> cases u.degas <;> rfl

theorem weightOf_eq (h : s.classEntry u.cls = some c) : s.weightOf u = u.foamWeight.getD c.defaultFoamWeight := by
  unfold State.weightOf
  simp only [h]
  cases u.foamWeight <;> rfl

theorem foamYield_eq {share : Nat} (h : s.classEntry u.cls = some c) (hs : u.share = some share) : s.foamYield u
    = if c.foamGas = none ∨ u.foamWeight.getD c.defaultFoamWeight = 0 then none
      else some (share * 1000 / u.foamWeight.getD c.defaultFoamWeight) := by
  unfold State.foamYield
  simp only [h, hs, weightOf_eq h]
  cases c.foamGas with
  | none => rfl
  | some g => simp

theorem belowLevel_eq (figure : Option Nat) (level : Nat) : belowLevel figure level = figure.any (· < level) := by
  cases figure <;> rfl

theorem verdictOf_eq (h : s.classEntry u.cls = some c) : s.verdictOf u =
    if u.severe then .incomplete
    else if (s.recoveryRatio u).any (· < c.threshold) then .shortRecovery
    else if (s.foamYield u).any (· < c.minimumYield) then .lowFoamYield
    else if c.circuitGas ≠ none ∧ u.nameplate = none then .unreferenced
    else .accepted := by
  unfold State.verdictOf
  simp only [h, belowLevel_eq]
  cases c.circuitGas <;> cases u.nameplate <;> rfl

end marks

/-! ### One unit closed (R13, R128) -/

section closing
variable {r : ChargeRecord} {n share : Nat} {u : UnitRecord} {s : State}

theorem closeUnit_eq (hfind : s.findUnit n = some u) (hstate : u.state = .inCharge) :
    let v := u.atChargeEnd share r.flags
    s.closeUnit r (n, share) = ({ s with
      tracker := { s.tracker with
        units := s.tracker.units.map fun w => if w.tag = n then { v with verdict := some (s.verdictOf v), state := .closed } else w
        closedList := s.tracker.closedList ++ [n] }
      shift := s.shift.creditUnit ((s.classEntry v.cls).bind (·.circuitGas)) ((v.degas.map (·.recovered)).getD 0) r.gas share
        (s.verdictOf v) } : State).raise (.unitClosed v.tag v.admission r.number (s.verdictOf v) (s.recoveryRatio v)
          ((s.foamYield v).map (min · Config.max32)) share (v.degas.map (·.recovered)) v.severe) := by
  unfold State.closeUnit
  rw [hfind]
  exact if_pos hstate

theorem verdict_place_ne {v y : Verdict} (h : y ≠ v) : v.place ≠ y.place := by
  revert h
  cases v <;> cases y <;> decide

theorem verdicts_set (v : Verdict) (x : Vector Nat 5) (y : Verdict) :
    (x.set v.place (x[v.place] + 1))[y.place] = x[y.place] + if y = v then 1 else 0 := by
  by_cases h : y = v
  · subst h
    rw [if_pos rfl]
    exact Vector.getElem_set_self ..
  · rw [if_neg h]
    exact getElem_set_ne _ _ _ _ (verdict_place_ne h)

theorem credit_getElem (x : Vector Nat 8) (g h : GasIndex) (mg : Nat) : (credit x g mg)[h] = x[h] + if h = g then mg else 0 := by
  unfold credit
  by_cases e : h = g
  · subst e; simp
  · rw [if_neg e]
    simp [Vector.getElem_set, Fin.val_ne_of_ne (Ne.symm e)]

theorem creditCircuit_getElem (a : Shift) (circuit : Option GasIndex) (recovered : Nat) (gas : GasIndex) (share : Nat) (v : Verdict)
    (g : GasIndex) : (a.creditUnit circuit recovered gas share v).refrigerant[g]
      = a.refrigerant[g] + if circuit = some g then recovered else 0 := by
  unfold Shift.creditUnit
  cases circuit with
  | none => simp
  | some h =>
    simp only [credit_getElem, Option.some.injEq]
    rw [ite_congr (propext eq_comm) (fun _ => rfl) fun _ => rfl]

variable {l : List UnitRecord} {v w : UnitRecord}

theorem find_replaced (hfind : (l.find? fun u => u.tag = n) = some u) (hw : w.tag = n) :
    ((l.map fun x => if x.tag = n then w else x).find? fun u => u.tag = n) = some w := by
  have htag : u.tag = n := by simpa using List.find?_some hfind
  rw [find_map_of_tag (fun x => ?_), hfind, Option.map_some, if_pos htag]
  split
  · rename_i h; rw [hw, h]
  · rfl

theorem mem_replaced (hw : w.tag = n) (hv : v.tag ≠ n) : v ∈ (l.map fun x => if x.tag = n then w else x) ↔ v ∈ l := by
  rw [List.mem_map]
  refine ⟨fun ⟨x, hx, e⟩ => ?_, fun h => ⟨v, h, if_neg hv⟩⟩
  split at e
  · exact absurd (e ▸ hw) hv
  · rwa [← e]

end closing

/-- Settles O49: one unit of an ended charge judged, closed and credited. -/
theorem closureJudgesAndCredits : Obligations.ClosureJudgesAndCredits := by
  intro r n share u k c s hfind hstate hk hc t report cut mark severe weight ratio yield verdict
  have htag : u.tag = n := by simpa using List.find?_some hfind
  have hmark : mark = marked r.flags u := rfl
  have hclosed := closeUnit_eq (r := r) (share := share) (s := s) hfind hstate
  have hkeeps := marked_keeps (u := u) r.flags
  obtain ⟨v, hv⟩ : ∃ v, v = u.atChargeEnd share r.flags := ⟨_, rfl⟩
  have hveq : v = { mark with share := some share } := by rw [hv, hmark, atChargeEnd_eq]
  have hvkeeps : v = { u with anomalies := mark.anomalies, truncated := mark.truncated, severe := severe, share := some share } := by
    rw [hveq, hmark, hkeeps, marked_severe]
  have hentry : s.classEntry v.cls = some c := by rw [hvkeeps]; exact classEntry_of hk hc
  have hratio : s.recoveryRatio v = ratio := by rw [recoveryRatio_eq hentry, hvkeeps]
  have hyield : s.foamYield v = yield := by rw [foamYield_eq hentry (by rw [hvkeeps]), hvkeeps]
  have hverdict : s.verdictOf v = verdict := by
    rw [verdictOf_eq hentry, hratio, hyield, hvkeeps]
  rw [← hv] at hclosed
  simp only [hratio, hyield, hverdict, hentry, Option.bind_some] at hclosed
  obtain ⟨w, hw⟩ : ∃ w : UnitRecord, w = { v with verdict := some verdict, state := .closed } := ⟨_, rfl⟩
  rw [← hw] at hclosed
  have hdegas : v.degas = u.degas := by rw [hvkeeps]
  have hadm : v.admission = u.admission := by rw [hvkeeps]
  have hvtag : v.tag = n := by rw [hvkeeps]; exact htag
  have hsevere : v.severe = severe := by rw [hvkeeps]
  rw [hdegas, hadm, hvtag, hsevere] at hclosed
  change t = _ at hclosed
  have hwtag : w.tag = n := by rw [hw]; exact hvtag
  have htracker : t.tracker = { s.tracker with
      units := s.tracker.units.map fun x => if x.tag = n then w else x
      closedList := s.tracker.closedList ++ [n] } := by rw [hclosed, raise_differs.tracker]
  have hshift : t.shift = s.shift.creditUnit c.circuitGas ((u.degas.map (·.recovered)).getD 0) r.gas share verdict := by
    rw [hclosed, raise_differs.shift]
  refine ⟨⟨w, ?_, ?_, ?_, ?_, ?_, ?_, htracker⟩, fun x hx => ?_, ?_, ?_, ?_, ?_, ?_, fun x => ?_, fun g => ?_, fun g => ?_, ?_, ?_⟩
  · rw [htracker]
    exact find_replaced hfind hwtag
  · rw [hw]
  · rw [hw, hveq]
  · rw [hw]
  · rw [hw]; exact hsevere
  · rw [hw, hveq]
  · rw [htracker]
    exact mem_replaced hwtag hx
  · rw [htracker]
  · rw [htracker]
  · rw [htracker]
  · rw [htracker]
  · rw [htracker]
  · rw [hshift]; exact verdicts_set ..
  · rw [hshift]; exact credit_getElem ..
  · rw [hshift]
    exact creditCircuit_getElem ..
  · rw [hshift]; rfl
  · rw [htracker, hshift]; exact hclosed

/-! ### The units of a charge closed one after the other -/

section units
variable {r : ChargeRecord} {s : State}

theorem raise_setChamber {t : State} {c : Chamber} {n : Notice} (h : t = s.setChamber c) :
    t.raise n = (s.raise n).setChamber c := by
  rw [raise_eq_setLink, raise_link_congr (show t.link = s.link by rw [h]; rfl), h, raise_eq_setLink (s := s)]
  rfl

/-- Closing a unit reads and writes nothing of the chamber. -/
theorem closeUnit_setChamber (x : Nat × Nat) (c : Chamber) : (s.setChamber c).closeUnit r x = (s.closeUnit r x).setChamber c := by
  have hfind : (s.setChamber c).findUnit x.1 = s.findUnit x.1 := rfl
  unfold State.closeUnit
  rw [hfind]
  cases s.findUnit x.1 with
  | none => rfl
  | some u =>
    by_cases h : u.state = .inCharge
    · simp only [h, if_true]
      exact raise_setChamber rfl
    · simp only [h, if_false]

theorem closeUnits_setChamber (l : List (Nat × Nat)) (c : Chamber) :
    (s.setChamber c).closeUnits r l = (s.closeUnits r l).setChamber c := by
  unfold State.closeUnits
  induction l generalizing s with
  | nil => rfl
  | cons x l ih => rw [List.foldl_cons, List.foldl_cons, closeUnit_setChamber, ih]

/-- R128: what the closing of units credits. -/
def Credited (a b : Shift) : Prop := b = { a with verdicts := b.verdicts, attributed := b.attributed, refrigerant := b.refrigerant }

theorem closeUnit_credited (x : Nat × Nat) : Credited s.shift (s.closeUnit r x).shift := by
  unfold State.closeUnit
  split
  · rfl
  · dsimp only
    split
    · rw [raise_differs.shift]; rfl
    · rfl

theorem closeUnits_credited (l : List (Nat × Nat)) : Credited s.shift (s.closeUnits r l).shift := by
  unfold State.closeUnits
  induction l generalizing s with
  | nil => rfl
  | cons x l ih =>
    have hx : Credited s.shift (s.closeUnit r x).shift := closeUnit_credited x
    have hl : Credited (s.closeUnit r x).shift _ := ih
    unfold Credited at hx hl ⊢
    rw [hx] at hl
    exact hl

end units

/-! ### The record and the counts of a charge (4.7, 6.1) -/

section records
variable {s : State} {c : Charge} {b : Bool}

/-- R96: the flags of a charge that ends, truncated or not. -/
def flagsAtEnd (truncated : Bool) (c : Charge) : ChargeFlags := { c.flags with truncated := c.flags.truncated || truncated }

/-- R98: the record of a charge that ends. -/
def recordAtEnd (truncated : Bool) (c : Charge) (s : State) : ChargeRecord :=
  c.record s.chamber.inForce (flagsAtEnd truncated c) (s.apportion (flagsAtEnd truncated c) (milligrams32 c.mass) c.units)

/-- R123: the charge counts of the Shift Account at the end of a charge. -/
def countedAtEnd (truncated : Bool) (c : Charge) (s : State) : Shift :=
  s.shift.countCharge (flagsAtEnd truncated c) s.chamber.inForce.gas (milligrams32 c.mass)

theorem flagsAtEnd_eq : (if b then { c.flags with truncated := true } else c.flags) = flagsAtEnd b c := by
  unfold flagsAtEnd; cases b <;> simp

/-- R94, R96: the end of a charge: its units closed with the charge counts made, and then the chamber's books. -/
theorem endCharge_eq : s.endCharge b c = ((({ s with shift := countedAtEnd b c s } : State).closeUnits (recordAtEnd b c s)
    (recordAtEnd b c s).units).setChamber { s.chamber.updateBaseline b c s.maximumBaseline with
      history := enterHistory (recordAtEnd b c s) s.chamber.history }).raise
    (.chargeEnd c.number (flagsAtEnd b c) (milligrams32 c.mass) (recordAtEnd b c s).units.length) := by
  obtain ⟨_, _, hbase⟩ := updateBaseline_eq b c s.maximumBaseline s.chamber
  have hchamber {t : State} {l : List (Nat × Nat)} {r : ChargeRecord} : (t.closeUnits r l).chamber = t.chamber :=
    closeUnits_differs.chamber
  unfold State.endCharge
  rw [flagsAtEnd_eq]
  dsimp only
  rw [hchamber]
  have hstart (a : Shift) (ch : Chamber) : (s.setChamber ch).setShift a = (s.setShift a).setChamber ch := rfl
  rw [hstart, closeUnits_setChamber]
  rw [hbase]
  rfl

theorem endCharge_shift : (s.endCharge b c).shift
    = (({ s with shift := countedAtEnd b c s } : State).closeUnits (recordAtEnd b c s) (recordAtEnd b c s).units).shift := by
  rw [endCharge_eq, raise_differs.shift]; rfl

theorem endCharge_tracker : (s.endCharge b c).tracker
    = (({ s with shift := countedAtEnd b c s } : State).closeUnits (recordAtEnd b c s) (recordAtEnd b c s).units).tracker := by
  rw [endCharge_eq, raise_differs.tracker]; rfl

theorem endCharge_chamber : (s.endCharge b c).chamber = { s.chamber.updateBaseline b c s.maximumBaseline with
    history := enterHistory (recordAtEnd b c s) s.chamber.history } := by
  rw [endCharge_eq, raise_differs.chamber]; rfl

theorem endCharge_credited : Credited (countedAtEnd b c s) (s.endCharge b c).shift := by
  rw [endCharge_shift]
  exact closeUnits_credited (s := { s with shift := countedAtEnd b c s }) _

theorem countedAtEnd_eq : countedAtEnd b c s = { s.shift with
    charges := s.shift.charges + 1, voidCharges := s.shift.voidCharges + (if c.flags.void then 1 else 0)
    unattributed :=
      if c.flags.void then s.shift.unattributed.set s.chamber.inForce.gas
        (s.shift.unattributed[s.chamber.inForce.gas] + milligrams32 c.mass)
      else s.shift.unattributed } := by
  have hvoid : (flagsAtEnd b c).void = c.flags.void := rfl
  unfold countedAtEnd Shift.countCharge
  rw [hvoid]
  cases c.flags.void <;> rfl

theorem endCharge_stopPending : (s.endCharge b c).chamber.stopPending = s.chamber.stopPending := by
  obtain ⟨_, _, e⟩ := updateBaseline_eq b c s.maximumBaseline s.chamber
  rw [endCharge_chamber, e]

theorem enterHistory_eq (r : ChargeRecord) {l : List ChargeRecord} (h : l.length ≤ 16) :
    enterHistory r l = (l ++ [r]).drop (l.length - 15) := by
  unfold enterHistory
  have hsize : Config.historySize = 16 := rfl
  rw [hsize]
  split
  · rw [show l.length - 15 = 0 by omega, List.drop_zero]
  · rw [show l.length - 15 = 1 by omega, List.drop_append_of_le_length (by omega)]

theorem updateBaseline_kept {ch : Chamber} {n : Nat} (h : b = true ∨ c.vented = true ∨ c.tailClean = false) :
    ch.updateBaseline b c n = ch := by
  refine if_pos ?_
  obtain h | h | h := h <;> simp [h]

theorem updateBaseline_taken {ch : Chamber} {n : Nat} (hb : b = false) (hv : c.vented = false) (ht : c.tailClean = true) :
    ch.updateBaseline b c n = { ch with
      baseline := min (c.tailSum / c.tailCount) n, baselineHigh := decide (n < c.tailSum / c.tailCount) } :=
  if_neg (by simp [hb, hv, ht])

theorem unattributed_getElem (void : Bool) (x : Vector Nat 8) (g h : GasIndex) (mass : Nat) :
    (if void then x.set g (x[g] + mass) else x)[h] = x[h] + if void ∧ h = g then mass else 0 := by
  cases void
  · simp
  · simpa [credit] using credit_getElem x g h mass

end records

/-- Settles O47: the end of a charge. -/
theorem chargeEndKeepsTheBooks : Obligations.ChargeEndKeepsTheBooks := by
  refine ⟨fun c s => ?_, ?_⟩
  · intro t
    have hstop : t.chamber.stopPending = s.chamber.stopPending := endCharge_stopPending
    rw [← hstop]
    rfl
  intro truncated c s hlength t mass flags weight counted
  have hcounted : countedAtEnd truncated c s = counted := countedAtEnd_eq
  have hchamber : t.chamber = _ := endCharge_chamber
  have hshift : Credited counted t.shift := hcounted ▸ endCharge_credited
  have ht : t = _ := endCharge_eq
  rw [hcounted] at ht
  obtain ⟨r, hr⟩ : ∃ r, r = recordAtEnd truncated c s := ⟨_, rfl⟩
  rw [← hr] at ht hchamber
  have hunits : r.units = s.apportion flags mass c.units := by rw [hr]; rfl
  unfold Credited at hshift
  refine ⟨⟨r, ?_, ?_, ?_, ?_, ?_, ?_, ?_, ?_, ?_, ?_, ?_, ?_, ?_, ?_, fun hv => ?_, fun hv => ?_, ?_⟩, ?_, ?_, fun g => ?_, ?_,
    fun h => ?_, fun hb hv htail => ?_, ?_⟩
  · rw [hchamber]; exact enterHistory_eq r hlength
  · rw [hr]; rfl
  · rw [hr]; rfl
  · rw [hr]; rfl
  · rw [hr]; rfl
  · rw [hr]; rfl
  · rw [hr]; rfl
  · rw [hr]; rfl
  · rw [hr]; rfl
  · rw [hr]; rfl
  · rw [hr]; rfl
  · rw [hr]; rfl
  · rw [hr]; rfl
  · rw [hr]; rfl
  · rw [hunits]; exact if_pos hv
  · have hzip : r.units = c.units.zip (shares mass (c.units.map weight)) := by
      rw [hunits]; exact if_neg (by rw [show flags.void = c.flags.void from rfl, hv]; exact Bool.false_ne_true)
    have hlen : (shares mass (c.units.map weight)).length = c.units.length := by rw [shares_length, List.length_map]
    have hsnd : r.units.map (·.2) = shares mass (c.units.map weight) := by
      rw [hzip, List.map_snd_zip (Nat.le_of_eq hlen)]
    refine ⟨by rw [hzip, List.map_fst_zip (Nat.le_of_eq hlen.symm)], hsnd, fun hne => ?_⟩
    rw [hsnd]
    exact shares_sum mass (by simpa using hne)
  · rw [hchamber]
    exact ht
  · rw [hshift]
  · rw [hshift]
  · rw [hshift]
    exact unattributed_getElem ..
  · rw [hchamber]
    obtain ⟨_, _, e⟩ := updateBaseline_eq truncated c s.maximumBaseline s.chamber
    rw [e]
  · rw [hchamber, updateBaseline_kept h]
    exact ⟨rfl, rfl⟩
  · rw [hchamber, updateBaseline_taken hb hv htail]
    exact ⟨rfl, rfl⟩
  · rw [endCharge_differs.within.eq_with (s := s) (t := t)]
    have hdiff : Differs [.tracker, .chamber, .shift, .notices] s t := endCharge_differs
    rw [hdiff.stations, hdiff.receiverF, hdiff.receiverH, hdiff.protection]


end Sys2Proof.Proofs.Closing

/-! # The trip of a RUNNING line (7.3 to 7.5) -/

namespace Sys2Proof.Proofs.Tripping
open Sys2Proof Sys2Proof.Machine Sys2Proof.Proofs.Frames Sys2Proof.Proofs.Steps Sys2Proof.Proofs.Requests
open Sys2Proof.Proofs.Fields Sys2Proof.Proofs.Stations Sys2Proof.Proofs.Scanning Sys2Proof.Proofs.Arbiter
open Sys2Proof.Proofs.Soundness (findUnit_tag atChargeEnd_tag)
open Sys2Proof.Proofs.RecordPlaces (map_fst_apportion)
open Sys2Proof.Proofs.Receivers Sys2Proof.Proofs.LineModes Sys2Proof.Proofs.Closing

set_option Elab.async false

/-! ### The books of a charge and the count of trips -/

section books
variable {r : ChargeRecord} {s t : State} {k : Nat}

/-- Two states with the same units, whose Shift Accounts agree but for the count of trips. -/
def SameBooks (k : Nat) (s t : State) : Prop := t.tracker = s.tracker ∧ t.shift = { s.shift with trips := k }

theorem SameBooks.eq (h : SameBooks k s t) : t = { t with tracker := s.tracker, shift := { s.shift with trips := k } } := by
  obtain ⟨htracker, hshift⟩ := h
  rw [← htracker, ← hshift]

theorem SameBooks.closeUnit (h : SameBooks k s t) (x : Nat × Nat) : SameBooks k (s.closeUnit r x) (t.closeUnit r x) := by
  rw [h.eq]
  generalize t = w
  have hfind : ({ w with tracker := s.tracker, shift := { s.shift with trips := k } } : State).findUnit x.1 = s.findUnit x.1 := rfl
  unfold State.closeUnit
  rw [hfind]
  cases s.findUnit x.1 with
  | none => exact ⟨rfl, rfl⟩
  | some u =>
    by_cases hu : u.state = .inCharge
    · simp only [hu, if_true]
      refine ⟨?_, ?_⟩
      · rw [raise_differs.tracker, raise_differs.tracker]; rfl
      · rw [raise_differs.shift, raise_differs.shift]; rfl
    · simp only [hu, if_false]
      exact ⟨rfl, rfl⟩

theorem SameBooks.closeUnits (h : SameBooks k s t) (l : List (Nat × Nat)) : SameBooks k (s.closeUnits r l) (t.closeUnits r l) := by
  unfold State.closeUnits
  induction l generalizing s t with
  | nil => exact h
  | cons x l ih => exact ih (h.closeUnit x)

theorem apportion_congr {f : ChargeFlags} {mass : Nat} {tags : List Nat} (h : t.tracker = s.tracker) :
    t.apportion f mass tags = s.apportion f mass tags := by
  unfold State.apportion State.weightsOf State.weightOf State.classEntry State.findUnit
  rw [h]

/-- The end of a charge keeps the same books in two states that differ in neither tracker nor chamber. -/
theorem SameBooks.endCharge {b : Bool} {c : Charge} (h : SameBooks k s t) (hc : t.chamber = s.chamber)
    (hm : t.maximumBaseline = s.maximumBaseline) :
    SameBooks k (s.endCharge b c) (t.endCharge b c) ∧ (t.endCharge b c).chamber = (s.endCharge b c).chamber := by
  have hrecord : recordAtEnd b c t = recordAtEnd b c s := by
    unfold recordAtEnd
    rw [hc, apportion_congr h.1]
  have hcounted : countedAtEnd b c t = { countedAtEnd b c s with trips := k } := by
    unfold countedAtEnd Shift.countCharge
    rw [hc, h.2]
    split <;> rfl
  have hclosed := SameBooks.closeUnits (s := { s with shift := countedAtEnd b c s }) (t := { t with shift := countedAtEnd b c t })
    (k := k) (r := recordAtEnd b c s) ⟨h.1, hcounted⟩ (recordAtEnd b c s).units
  refine ⟨⟨?_, ?_⟩, ?_⟩
  · rw [endCharge_tracker, endCharge_tracker, hrecord]; exact hclosed.1
  · rw [endCharge_shift, endCharge_shift, hrecord]; exact hclosed.2
  · rw [endCharge_chamber, endCharge_chamber, hrecord, hc, hm]

end books

/-! ### The units of a truncated charge -/

section truncated
variable {r : ChargeRecord} {s : State} {n : Nat} {u : UnitRecord}

/-- R96, R127: a unit that a truncated charge leaves: CLOSED, severe and INCOMPLETE. -/
def Cut (n : Nat) (s : State) : Prop :=
  ∃ v, s.findUnit n = some v ∧ v.state = .closed ∧ v.severe = true ∧ v.verdict = some .incomplete ∧ n ∈ s.tracker.closedList

theorem verdictOf_severe (h : u.severe = true) : s.verdictOf u = .incomplete := by
  unfold State.verdictOf
  split
  · exact if_pos h
  · exact if_pos h

theorem findUnit_setTracker_map {f : UnitRecord → UnitRecord} (hf : ∀ u, (f u).tag = u.tag) (m : Nat)
    (h : ∀ u, s.findUnit m = some u → f u = u) {t : State} (ht : t.tracker.units = s.tracker.units.map f) : t.findUnit m = s.findUnit m := by
  unfold State.findUnit at *
  rw [ht, find_map_of_tag hf]
  cases e : s.tracker.units.find? fun u => u.tag = m with
  | none => rfl
  | some u => rw [Option.map_some, h u e]

/-- Closing a unit leaves the records under other tags, and one that is not IN_CHARGE. -/
theorem closeUnit_other {x : Nat × Nat} (h : x.1 = n → ∀ u, s.findUnit n = some u → u.state ≠ .inCharge) :
    (s.closeUnit r x).findUnit n = s.findUnit n := by
  cases hfind : s.findUnit x.1 with
  | none => rw [State.closeUnit, hfind]
  | some u =>
    by_cases hu : u.state = .inCharge
    · have hn : x.1 ≠ n := fun e => h e u (e ▸ hfind) hu
      obtain ⟨m, share⟩ := x
      have htag : u.tag = m := findUnit_tag hfind
      refine findUnit_setTracker_map (f := _) ?_ n (fun v hv => ?_) (by rw [closeUnit_eq hfind hu, raise_differs.tracker])
      · intro w
        dsimp only
        split
        · rename_i e; rw [atChargeEnd_tag, htag, e]
        · rfl
      · exact if_neg (by rw [findUnit_tag hv]; exact Ne.symm hn)
    · rw [State.closeUnit, hfind]
      simp only [hu, if_false]

theorem closeUnit_closedList {x : Nat × Nat} (h : n ∈ s.tracker.closedList) : n ∈ (s.closeUnit r x).tracker.closedList := by
  cases hfind : s.findUnit x.1 with
  | none => rw [State.closeUnit, hfind]; exact h
  | some u =>
    by_cases hu : u.state = .inCharge
    · obtain ⟨m, share⟩ := x
      rw [closeUnit_eq hfind hu, raise_differs.tracker]
      exact List.mem_append_left _ h
    · rw [State.closeUnit, hfind]
      simp only [hu, if_false]
      exact h

theorem Cut.closeUnit (h : Cut n s) (x : Nat × Nat) : Cut n (s.closeUnit r x) := by
  obtain ⟨v, hv, hstate, hsevere, hverdict, hlist⟩ := h
  refine ⟨v, ?_, hstate, hsevere, hverdict, closeUnit_closedList hlist⟩
  rw [closeUnit_other fun _ w hw => ?_, hv]
  rw [hv, Option.some.injEq] at hw
  rw [← hw, hstate]
  exact fun e => nomatch e

theorem Cut.closeUnits (h : Cut n s) (l : List (Nat × Nat)) : Cut n (s.closeUnits r l) := by
  unfold State.closeUnits
  induction l generalizing s with
  | nil => exact h
  | cons x l ih => exact ih (h.closeUnit x)

theorem closeUnit_cut {share : Nat} (ht : r.flags.truncated = true) (hfind : s.findUnit n = some u) (hu : u.state = .inCharge) :
    Cut n (s.closeUnit r (n, share)) := by
  have hsevere : (u.atChargeEnd share r.flags).severe = true := by
    rw [atChargeEnd_eq]
    show (marked r.flags u).severe = true
    rw [marked_severe, ht, Bool.or_true, Bool.true_or]
  have hclosed := closeUnit_eq (r := r) (share := share) hfind hu
  refine ⟨{ u.atChargeEnd share r.flags with
    verdict := some (s.verdictOf (u.atChargeEnd share r.flags)), state := .closed }, ?_, rfl, hsevere,
    congrArg some (verdictOf_severe (s := s) hsevere), ?_⟩
  · rw [State.findUnit, hclosed, raise_differs.tracker]
    exact find_replaced hfind (by rw [atChargeEnd_tag, findUnit_tag hfind])
  · rw [hclosed, raise_differs.tracker]
    exact List.mem_append_right _ (List.mem_singleton_self n)

/-- R96: the units of a truncated charge are cut. -/
theorem closeUnits_cut (ht : r.flags.truncated = true) (hu : u.state = .inCharge) (l : List (Nat × Nat)) (hn : n ∈ l.map (·.1)) :
    ∀ {s : State}, s.findUnit n = some u → Cut n (s.closeUnits r l) := by
  unfold State.closeUnits
  induction l with
  | nil => cases hn
  | cons x l ih =>
    intro s hfind
    obtain ⟨m, share⟩ := x
    by_cases hm : m = n
    · subst hm
      exact (closeUnit_cut ht hfind hu).closeUnits l
    · refine ih ?_ ((closeUnit_other fun e => absurd e hm).trans hfind)
      simpa [Ne.symm hm] using hn

end truncated

/-! ### The trip entry (R142) -/

section entry
variable {s : State} {a : TripCauses} {c : Charge}

/-- R142, steps 1 to 3: the line in TRIPPED and the causes held; the chamber is not halted yet. -/
def tripped (a : TripCauses) (s : State) : State :=
  ((((s.setLink { s.link with mode := .tripped }).setProtection { s.protection with causes := a, clearHold := none }).setShift
    { s.shift with trips := s.shift.trips + 1 }).raise (.trip a a true s.chamber.standing.chargeNumber))

theorem tripEntry_eq : s.tripEntry a
    = ((tripped a s).haltChamber.handCauseToAll .ofTrip .hydrocarbon).noteStations s.stations := rfl

theorem tripped_differs : Differs [.shift, .protection, .mode, .notices] s (tripped a s) :=
  (((setMode_differs.seq setProtection_differs).seq setShift_differs).seq raise_differs).within

theorem tripped_books : SameBooks (s.shift.trips + 1) s (tripped a s) :=
  ⟨tripped_differs.tracker, by rw [tripped, raise_differs.shift]; rfl⟩

theorem tripEntry_after_halt : Differs [.stations, .notices] (tripped a s).haltChamber (s.tripEntry a) :=
  (handCauseToAll_differs.seq noteStations_differs).within

theorem haltChamber_charging (h : s.chamber.standing = .charging c) : s.haltChamber
    = (s.endCharge true c).setChamber { (s.endCharge true c).chamber with
        standing := .halted, stopPending := false, lastMismatch := none } := by
  unfold State.haltChamber
  rw [h]

theorem haltChamber_idle (h : s.chamber.standing.phase = none) : s.haltChamber
    = s.setChamber { s.chamber with standing := .halted, stopPending := false, lastMismatch := none } := by
  unfold State.haltChamber
  cases hs : s.chamber.standing with
  | charging c => rw [hs] at h; cases h
  | _ => rfl

theorem tripEntry_station (i : StationNo) : (s.tripEntry a).station i
    = if (s.station i).state = .evacuating ∧ (s.station i).family = some .hydrocarbon then
        { s.station i with state := .suspended, suspElapsed := 0, causes := { (s.station i).causes with trip := true } }
      else s.station i := by
  rw [tripEntry_eq, noteStations_differs.station, handCauseToAll_station, haltChamber_differs.station, tripped_differs.station]
  split
  · simp [Station.suspendFor, Causes.union, Causes.ofTrip]
  · rfl

theorem tripEntry_charging (h : s.chamber.standing = .charging c) :
    (s.tripEntry a).tracker = (s.endCharge true c).tracker
    ∧ (s.tripEntry a).shift = { (s.endCharge true c).shift with trips := s.shift.trips + 1 }
    ∧ (s.tripEntry a).chamber = { (s.endCharge true c).chamber with
        standing := .halted, stopPending := false, lastMismatch := none } := by
  obtain ⟨⟨htracker, hshift⟩, hchamber⟩ := tripped_books.endCharge (s := s) (t := tripped a s) (b := true) (c := c)
    tripped_differs.chamber tripped_differs.maximumBaseline
  have hhalt := haltChamber_charging (s := tripped a s) (c := c) (by rw [tripped_differs.chamber]; exact h)
  rw [tripEntry_after_halt.tracker, tripEntry_after_halt.shift, tripEntry_after_halt.chamber, hhalt]
  exact ⟨htracker, hshift, by rw [State.setChamber_chamber, hchamber]⟩

theorem tripEntry_idle (h : s.chamber.standing.phase = none) :
    (s.tripEntry a).tracker = s.tracker ∧ (s.tripEntry a).shift = { s.shift with trips := s.shift.trips + 1 }
    ∧ (s.tripEntry a).chamber = { s.chamber with standing := .halted, stopPending := false, lastMismatch := none } := by
  have hhalt := haltChamber_idle (s := tripped a s) (by rw [tripped_differs.chamber]; exact h)
  rw [tripEntry_after_halt.tracker, tripEntry_after_halt.shift, tripEntry_after_halt.chamber, hhalt]
  exact ⟨tripped_books.1, tripped_books.2, by rw [State.setChamber_chamber, tripped_differs.chamber]⟩

theorem endCharge_truncated : (s.endCharge true c).chamber
    = { s.chamber with history := enterHistory (recordAtEnd true c s) s.chamber.history } := by
  rw [endCharge_chamber, updateBaseline_kept (.inl rfl)]

theorem enterHistory_getLast (r : ChargeRecord) (l : List ChargeRecord) : (enterHistory r l).getLast? = some r := by
  unfold enterHistory
  split <;> exact List.getLast?_concat

/-- R96: each unit of a truncated charge is closed, severe and INCOMPLETE. -/
theorem endCharge_cuts {n : Nat} {u : UnitRecord} (hv : c.flags.void = false) (hn : n ∈ c.units) (hu : s.findUnit n = some u)
    (hstate : u.state = .inCharge) : Cut n (s.endCharge true c) := by
  have hunits : (recordAtEnd true c s).units.map (·.1) = c.units :=
    map_fst_apportion (flags := flagsAtEnd true c) fun h => absurd (hv.symm.trans h) (by decide)
  have ht : (recordAtEnd true c s).flags.truncated = true := Bool.or_true _
  have hcut := closeUnits_cut ht hstate _ (by rw [hunits]; exact hn) (s := { s with shift := countedAtEnd true c s }) hu
  unfold Cut State.findUnit at *
  rw [endCharge_tracker]
  exact hcut

theorem tripEntry_shift : (s.tripEntry a).shift.trips = s.shift.trips + 1 ∧ (s.tripEntry a).shift.number = s.shift.number
    ∧ (s.tripEntry a).shift.abandoned = s.shift.abandoned := by
  cases hs : s.chamber.standing with
  | charging c =>
    obtain ⟨-, hshift, -⟩ := tripEntry_charging (a := a) hs
    have hcredited := endCharge_credited (b := true) (c := c) (s := s)
    rw [hshift, hcredited, countedAtEnd_eq]
    exact ⟨rfl, rfl, rfl⟩
  | _ =>
    obtain ⟨-, hshift, -⟩ := tripEntry_idle (s := s) (a := a) (by rw [hs]; rfl)
    rw [hshift]
    exact ⟨rfl, rfl, rfl⟩

theorem tripEntry_chamber : ∃ history, (s.tripEntry a).chamber = { s.chamber with
    standing := .halted, stopPending := false, lastMismatch := none, history := history } := by
  cases hs : s.chamber.standing with
  | charging c =>
    obtain ⟨-, -, hchamber⟩ := tripEntry_charging (a := a) hs
    rw [hchamber, endCharge_truncated]
    exact ⟨_, rfl⟩
  | _ =>
    obtain ⟨-, -, hchamber⟩ := tripEntry_idle (s := s) (a := a) (by rw [hs]; rfl)
    exact ⟨_, hchamber⟩

/-- R142: a trip entry, with the outputs and the line settled. -/
theorem tripEntry_entered : TripEntered s (s.tripEntry a).settle a := by
  have hdiff : Differs [.tracker, .stations, .chamber, .shift, .protection, .mode, .notices] s (s.tripEntry a) :=
    tripEntry_differs
  have hmode : (s.tripEntry a).link.mode = .tripped := by
    rw [tripEntry_after_halt.mode, haltChamber_differs.mode, tripped, raise_differs.mode]; rfl
  have hprotection : (s.tripEntry a).protection = { s.protection with causes := a, clearHold := none } := by
    rw [tripEntry_after_halt.protection, haltChamber_differs.protection, tripped, raise_differs.protection]; rfl
  have hstation (i : StationNo) := tripEntry_station (s := s) (a := a) i
  have hbusy (c : Charge) := tripEntry_charging (s := s) (a := a) (c := c)
  have hidle := tripEntry_idle (s := s) (a := a)
  have hshift := tripEntry_shift (s := s) (a := a)
  obtain ⟨history, hchamber⟩ := tripEntry_chamber (s := s) (a := a)
  generalize s.tripEntry a = t at hdiff hmode hprotection hstation hbusy hidle hshift hchamber ⊢
  have hrequests : t.settle.link.requests = s.link.requests := by
    rw [State.settle_link, Link.arbitrate_requests, hdiff.requests]
  have henables : t.settle.link.enables = s.link.enables := by
    rw [State.settle_link, Link.arbitrate_enables, hdiff.enables]
  obtain ⟨htrips, hnumber, habandoned⟩ := hshift
  refine ⟨?_, hprotection, htrips, hnumber, habandoned, ?_, ?_, ?_, ?_, ?_, ?_, ?_, ?_, ?_, ?_, hstation, fun c hc => ?_,
    fun h => ?_, hdiff.now, hdiff.timing, hdiff.receiverF, hdiff.receiverH, hdiff.gases, hdiff.scanner, hdiff.sample,
    hdiff.toTake, hdiff.pending, hrequests, henables⟩
  · rw [State.settle_link, Link.arbitrate_mode]; exact hmode
  · rw [State.settle_chamber, hchamber]
  · rw [State.settle_chamber, hchamber]
  · rw [State.settle_chamber, hchamber]
  · rw [State.settle_chamber, hchamber]
  · rw [State.settle_chamber, hchamber]
  · rw [State.settle_chamber, hchamber]
  · rw [State.settle_chamber, hchamber]
  · rw [State.settle_pins, State.driven, hchamber]; rfl
  · rw [State.settle_pins, State.driven, hchamber]; rfl
  · rw [State.settle_pins, State.driven, hchamber]; rfl
  · obtain ⟨htracker, hshift, hcharge⟩ := hbusy c hc
    rw [endCharge_truncated] at hcharge
    refine ⟨htracker, ?_, hshift, ⟨recordAtEnd true c s, ?_, rfl, ?_⟩, fun hv n hn u hu hstate => ?_⟩
    · rw [endCharge_truncated, State.settle_chamber, hcharge]
    · rw [State.settle_chamber, hcharge]
      exact enterHistory_getLast ..
    · show flagsAtEnd true c = _
      rw [flagsAtEnd, Bool.or_true]
    · have hcut : Cut n (s.endCharge true c) := endCharge_cuts hv hn hu hstate
      unfold Cut State.findUnit at hcut
      rw [← htracker] at hcut
      exact hcut
  · have hphase : s.chamber.standing.phase = none := by obtain h | h := h <;> rw [h] <;> rfl
    obtain ⟨htracker, hshift, hcharge⟩ := hidle hphase
    exact ⟨htracker, by rw [State.settle_chamber, hcharge], hshift⟩

end entry

/-! ### What trips the line (7.3, 7.5) -/

section causes
variable {s : State} {a : TripCauses}

theorem addCauses_entry (ha : a ≠ .empty) (hm : s.link.mode = .running) (hc : s.protection.causes = .empty) :
    s.addCauses a = s.tripEntry a := by
  have hae : ¬ a.isEmpty = true := mt isEmpty_iff.mp ha
  unfold State.addCauses
  rw [if_neg hae, if_pos]
  rw [hm, hc]; rfl

theorem without_requested (h : a.requestedTrip = false) : TripCauses.ofRequested.without a = .ofRequested := by
  simp [TripCauses.without, TripCauses.ofRequested, TripCauses.empty, h]

theorem union_requested : a.union .ofRequested = { a with requestedTrip := true } := by
  simp [TripCauses.union, TripCauses.ofRequested, TripCauses.empty]

theorem joinCauses_requested (h : s.protection.causes.requestedTrip = false) : s.joinCauses .ofRequested =
    let all : TripCauses := { s.protection.causes with requestedTrip := true }
    let t : State := { s with protection := { s.protection with causes := all } }
    if s.link.mode = .tripped then t.raise (.trip .ofRequested all false none) else t := by
  unfold State.joinCauses
  rw [without_requested h, union_requested]
  dsimp only
  cases hm : s.link.mode <;> rfl

/-- R89, R93: a wait phase's timeout in RUNNING. -/
theorem waitExpiry_entry {p : Phase} {n : Nat} {c : Charge} (hs : s.chamber.standing = .charging c) (hp : c.phase = p)
    (hpass : s.mayPass (n * 10000 + 1 - c.waitElapsed) = true) (ha : a ≠ .empty) (hm : s.link.mode = .running)
    (hc : s.protection.causes = .empty) :
    s.waitExpiry p n a = (s.elapse (n * 10000 + 1 - c.waitElapsed)).tripEntry a := by
  unfold State.waitExpiry
  rw [hs]
  exact (if_pos hp).trans ((if_pos hpass).trans (addCauses_entry ha hm hc))

end causes

/-- Settles O51: EMERGENCY_TRIP, and the chamber's wait timeouts. -/
theorem emergencyAndTimeoutsTripTheLine : Obligations.EmergencyAndTimeoutsTripTheLine := by
  refine ⟨fun tag s ht => ?_, fun c s hs hm hc => ⟨fun hp hpass => ?_, fun hp hpass => ?_⟩⟩
  · intro set all
    have answered {t : State} {r : Reply} (h : handleEmergencyTrip s.takeFromQueue = (t, r)) :=
      exec_reading (i := .emergencyTrip tag []) (a := ()) rfl rfl ht rfl h
    have handled (h : s.link.mode ≠ .running) : handleEmergencyTrip s.takeFromQueue = if set.requestedTrip
        then s.takeFromQueue.refuse .ignored else (s.takeFromQueue.joinCauses .ofRequested, .bare .done) := if_neg h
    have joins (h : set.requestedTrip = false) := joinCauses_requested (s := s.takeFromQueue) h
    refine ⟨fun h he => ?_, fun h hr => ?_, fun h hr => ?_, fun h hr => ?_⟩
    · have hentry : s.takeFromQueue.addCauses .ofRequested = s.takeFromQueue.tripEntry .ofRequested :=
        addCauses_entry (fun e => nomatch e) h he
      exact ⟨_, answered (r := .bare .done) ((if_pos h).trans (by rw [hentry]; rfl)), tripEntry_entered⟩
    · refine answered (r := .bare .done) ((handled (by rw [h]; exact fun e => nomatch e)).trans ?_)
      rw [hr, if_neg Bool.false_ne_true, (joins hr).trans (if_pos h)]
      rfl
    · refine answered (r := .bare .done) ((handled (by rw [h]; exact fun e => nomatch e)).trans ?_)
      rw [hr, if_neg Bool.false_ne_true, (joins hr).trans (if_neg (by rw [State.takeFromQueue_link_mode, h]; exact fun e => nomatch e))]
      rfl
    · refine answered (r := .bare .ignored) ((handled h).trans ?_)
      rw [hr]
      rfl
  · have hexec := exec_event (i := .inertTimeoutExpiry) rfl s
    rw [waitExpiry_entry hs hp hpass (by decide) hm hc] at hexec
    rw [hexec]
    generalize s.elapse _ = t
    exact ⟨_, rfl, tripEntry_entered⟩
  · have hexec := exec_event (i := .ventTimeoutExpiry) rfl s
    rw [waitExpiry_entry hs hp hpass (by decide) hm hc] at hexec
    rw [hexec]
    generalize s.elapse _ = t
    exact ⟨_, rfl, tripEntry_entered⟩

/-! ### Protection at a published scan (7.3, 7.6) -/

section scans
variable {s : State} {x : Scan}

theorem clampTo_eq (most : Nat) (raw : Int) : clampTo most raw = limited most raw := by
  unfold clampTo limited
  split
  · omega
  · rfl

theorem silent_iff (c : Condition) : c.silent = true ↔ ¬ (c = .valid ∨ c = .held) := by cases c <;> simp [Condition.silent]

theorem usable_true_iff {c : Condition} : c.usable = true ↔ c = .valid ∨ c = .held := by rw [usable_iff, decide_eq_true_eq]

theorem atWork_iff (y : ChamberStanding) : y.atWork = true ↔ (∃ c, y = .charging c) ∨ y = .waiting := by
  cases y <;> simp [ChamberStanding.atWork]

/-- R139. -/
theorem loadConcAt_iff : s.loadConcAt x = true ↔ s.chamber.inForce.mode = .hydrocarbon
    ∧ s.chamber.standing.phase = some .load
    ∧ ((x.role roleChamberConc).condition = .valid ∨ (x.role roleChamberConc).condition = .held)
    ∧ ∃ l, s.chamberLfl = some l ∧ l * s.protection.limits.loadTripPercent / 100 ≤ limited 60000 (x.role roleChamberConc).value := by
  unfold State.loadConcAt concentrationAt State.loadTripLevel
  rw [clampTo_eq]
  simp only [Bool.and_eq_true, decide_eq_true_eq, usable_true_iff, and_assoc]
  cases s.chamberLfl with
  | none => simp [percentLevel]
  | some l =>
    simp only [percentLevel, Option.map_some, Option.some.injEq, exists_eq_left']
    exact and_congr_right fun _ => and_congr_right fun _ => and_congr_right fun _ => decide_eq_true_iff

/-- R140. -/
theorem oxygenHighAt_iff : s.oxygenHighAt x = true ↔ s.chamber.inForce.mode = .hydrocarbon
    ∧ (s.chamber.standing.phase = some .window ∨ s.chamber.standing.phase = some .tail
      ∨ s.chamber.standing.phase = some .ventWait)
    ∧ ((x.role roleChamberOxygen).condition = .valid ∨ (x.role roleChamberOxygen).condition = .held)
    ∧ (s.protection.limits.oxygenTrip : Int) ≤ (x.role roleChamberOxygen).value := by
  unfold State.oxygenHighAt
  simp only [Bool.and_eq_true, decide_eq_true_eq, usable_true_iff, and_assoc]
  cases s.chamber.standing.phase with
  | none => simp
  | some p => cases p <;> simp [Phase.watchesOxygen]

/-- R141. -/
theorem signalLostScan_iff : s.signalLostScan x = true ↔ s.chamber.inForce.mode = .hydrocarbon
    ∧ ((∃ c, s.chamber.standing = .charging c) ∨ s.chamber.standing = .waiting)
    ∧ (¬ ((x.role roleChamberConc).condition = .valid ∨ (x.role roleChamberConc).condition = .held)
      ∨ ¬ ((x.role roleChamberOxygen).condition = .valid ∨ (x.role roleChamberOxygen).condition = .held)) := by
  unfold State.signalLostScan
  simp only [Bool.and_eq_true, Bool.or_eq_true, decide_eq_true_eq, silent_iff, atWork_iff, and_assoc]

/-- R145. -/
theorem qualifies_iff : s.qualifies x = true ↔ (x.role roleChamberConc).condition = .valid
    ∧ (s.chamber.inForce.mode = .hydrocarbon → ∀ l, s.chamberLfl = some l →
      limited 60000 (x.role roleChamberConc).value < l * s.protection.limits.clearPercent / 100) := by
  unfold State.qualifies concentrationAt State.clearLevel
  rw [clampTo_eq]
  by_cases h : s.chamber.inForce.mode = .hydrocarbon
  · cases s.chamberLfl with
    | none => simp [percentLevel]
    | some l =>
      simp only [percentLevel, Option.map_some, h, if_true, Option.some.injEq, forall_eq', Bool.and_eq_true, decide_eq_true_eq,
        true_implies]
      exact Iff.rfl
  · simp [h]

theorem scanCauses_empty_iff : s.scanCauses x = .empty
    ↔ ¬ (s.loadConcAt x = true ∨ s.oxygenHighAt x = true ∨ s.signalLostScan x = true) := by
  simp [State.scanCauses, TripCauses.empty]

theorem protectionScan_trips (hm : s.link.mode = .running) (hc : s.protection.causes = .empty) (hne : s.scanCauses x ≠ .empty) :
    s.protectionScan x = s.tripEntry (s.scanCauses x) := by
  rw [State.protectionScan, measureHold_protection_of_running (by rw [hm]; exact fun e => nomatch e), addCauses_entry hne hm hc]

theorem protectionScan_measures (h : s.scanCauses x = .empty) : s.protectionScan x = s.measureHold x := by
  rw [State.protectionScan, h]
  rfl

theorem runAfter_eq (m : Nat) (run : Option Nat) (q : Bool) : runAfter q m run = if q then some (run.getD m) else none := by
  cases q <;> cases run <;> rfl

end scans

/-- Settles O53: the causes that hold at a scan, or the clear hold. -/
theorem protectionScanFindsTheCauses : Obligations.ProtectionScanFindsTheCauses := by
  intro x s hx hheld conc oxygen usable h lfl phase load high lost clear
  have hexec := exec_taken (i := .protectionScan) rfl hx
  obtain ⟨u, hu⟩ : ∃ u, u = s.taking .protection := ⟨_, rfl⟩
  have hload : u.loadConcAt x = true ↔ load := by rw [hu]; exact loadConcAt_iff
  have hhigh : u.oxygenHighAt x = true ↔ high := by rw [hu]; exact oxygenHighAt_iff
  have hlost : u.signalLostScan x = true ↔ lost := by rw [hu]; exact signalLostScan_iff
  have hclear : u.qualifies x = true ↔ clear := by rw [hu]; exact qualifies_iff
  have hempty : u.scanCauses x = .empty ↔ ¬ (load ∨ high ∨ lost) := by rw [scanCauses_empty_iff, hload, hhigh, hlost]
  have hmode : u.link.mode = s.link.mode := by rw [hu]; rfl
  rw [← hu] at hexec ⊢
  refine ⟨fun hm hholds => ?_, fun hnot => ?_⟩
  · have hc : u.protection.causes = .empty := by rw [hu]; exact (hheld.1 hm).1
    refine ⟨_, u.scanCauses x, hexec, ?_, hload, hhigh, hlost, rfl, rfl, rfl⟩
    rw [protectionScan_trips (hmode.trans hm) hc fun e => hempty.mp e hholds]
    exact tripEntry_entered
  · have hnone : u.scanCauses x = .empty := by
      obtain hm | hnot := hnot
      · have hwork : s.chamber.standing.atWork = false := by
          cases hw : s.chamber.standing.atWork with
          | false => rfl
          | true => exact absurd (running_of_atWork hheld hw) hm
        exact scanCauses_of_not_atWork (by rw [hu]; exact hwork)
      · exact hempty.mpr hnot
    rw [protectionScan_measures hnone] at hexec
    have hprotection : u.protection = s.protection := by rw [hu]; rfl
    by_cases hm : s.link.mode = .tripped
    · have hmeasure : u.measureHold x
          = u.setProtection { u.protection with clearHold := runAfter (u.qualifies x) x.moment u.protection.clearHold } :=
        if_pos (hmode.trans hm)
      rw [hmeasure, runAfter_eq, hprotection] at hexec
      exact ⟨_, hexec, fun h => absurd hm h, fun _ hc => if_neg (mt hclear.mp hc), fun _ hc => if_pos (hclear.mpr hc)⟩
    · have hmeasure : u.measureHold x = u := if_neg (by rw [hmode]; exact hm)
      rw [hmeasure] at hexec
      exact ⟨s.protection.clearHold, by rw [hexec, ← hprotection], fun _ => rfl, fun h => absurd h hm, fun h => absurd h hm⟩

end Sys2Proof.Proofs.Tripping

/-! # The line put in RUNNING, and its restart (10.1.1, 10.1.3) -/

namespace Sys2Proof.Proofs.Restarting
open Sys2Proof Sys2Proof.Machine Sys2Proof.Proofs.Frames Sys2Proof.Proofs.Steps Sys2Proof.Proofs.Requests
open Sys2Proof.Proofs.Fields Sys2Proof.Proofs.Stations Sys2Proof.Proofs.Scanning Sys2Proof.Proofs.Arbiter

set_option Elab.async false

/-! ### GO_ONLINE (10.1.1) -/

section online
variable {s : State}

/-- R181: what a ready line gives each required role. -/
def Ready (s : State) (r : RoleNo) : Prop := (s.scanner.roles[r]).binding ≠ none ∧ (s.latestReading r).condition = .valid

theorem required_iff (r : RoleNo) :
    s.required r = true ↔ 12 ≤ r.val ∨ ∃ i : StationNo, (s.station i).state ≠ .locked ∧ r.val % 4 = i.val := by
  unfold State.required
  split
  · rename_i h
    rw [decide_eq_true_iff]
    refine ⟨fun hl => .inr ⟨_, hl, rfl⟩, fun hr => ?_⟩
    obtain hr | ⟨i, hl, hi⟩ := hr
    · omega
    · obtain rfl : i = ⟨r.val % 4, Nat.mod_lt _ (by decide)⟩ := Fin.ext hi.symm
      exact hl
  · exact ⟨fun _ => .inl (by omega), fun _ => rfl⟩

theorem any_map_roles {p : RoleNo → Bool} (h : ∀ r, p r = false) : ((allRoles.map p).any id) = false := by
  simp [h]

theorem unboundRoles_none (h : ∀ r, s.required r = true → Ready s r) : s.unboundRoles.any id = false := by
  refine any_map_roles fun r => ?_
  cases hr : s.required r with
  | false => rfl
  | true => simpa [Option.isSome_iff_ne_none] using (h r hr).1

theorem unreadyRoles_none (h : ∀ r, s.required r = true → Ready s r) : s.unreadyRoles.any id = false := by
  refine any_map_roles fun r => ?_
  cases hr : s.required r with
  | false => rfl
  | true => simpa using (h r hr).2

/-- R21: with an empty Degas Queue the pass assigns nothing. -/
theorem arbiterPass_empty (h : s.tracker.degasQueue = []) : s.arbiterPass = s := by
  have hnone : s.nextAssignment = none := by
    unfold State.nextAssignment
    rw [h]
    cases allStations.find? fun i => (s.station i).state = .idle <;> rfl
  unfold State.arbiterPass State.assignUpTo
  rw [hnone]
  exact ite_self _

end online

/-- Settles O21: GO_ONLINE accepted, and refused in order. -/
theorem goOnlineStartsAReadyLine : Obligations.GoOnlineStartsAReadyLine := by
  refine ⟨fun tag s ht hm hr hline hstation => ?_, fun tag s ht => ?_⟩
  · have hready (r : RoleNo) (h : s.takeFromQueue.required r = true) : Ready s.takeFromQueue r := by
      by_cases h12 : 12 ≤ r.val
      · exact hline r h12
      · obtain h | ⟨i, hl, hi⟩ := (required_iff r).mp h
        · exact absurd h h12
        · exact hstation i r hl (Nat.not_le.mp h12) hi
    have hhandled : handleGoOnline s.takeFromQueue = (s.takeFromQueue.goOnline, .bare .done) := by
      unfold handleGoOnline
      rw [State.takeFromQueue_link_mode, hm]
      simp only [unboundRoles_none hready, unreadyRoles_none hready]
      rw [if_neg]
      · rfl
      · rw [show s.takeFromQueue.protection = s.protection from rfl, hr]; exact Bool.false_ne_true
    have hdiff : Differs [.tracker, .stations, .mode, .notices] s.takeFromQueue s.takeFromQueue.goOnline := by
      have := handleGoOnline_differs (s := s.takeFromQueue)
      rwa [hhandled] at this
    refine ⟨_, exec_reading (i := .goOnline tag []) (a := ()) rfl rfl ht rfl hhandled, ?_, answered_of_differs hdiff ht.1, ?_, ?_, ?_⟩
    · rw [State.sends_link_mode]
      unfold State.goOnline
      rw [noteStations_differs.mode, arbiterPass_differs.mode]
      rfl
    · intro u
      rw [State.sends_tracker, State.sends_stations]
      unfold State.goOnline
      rw [noteStations_differs.tracker, noteStations_differs.stations]
      exact ⟨rfl, rfl⟩
    · intro hempty
      congr 1
      unfold State.goOnline
      rw [arbiterPass_empty (s := s.takeFromQueue.setLink { s.takeFromQueue.link with mode := .running }) hempty]
      exact noteStations_none fun _ => rfl
    · rw [sends_eq_with hdiff.within, hdiff.receiverF, hdiff.receiverH, hdiff.chamber, hdiff.shift, hdiff.protection]
      rfl
  · intro refusal x hx
    have answered {r : Reply} (h : handleGoOnline s.takeFromQueue = (s.takeFromQueue, r)) :=
      exec_reading (i := .goOnline tag []) (a := ()) rfl rfl ht rfl h
    refine answered (r := ⟨x.1, x.2⟩) ?_
    have hunbound : s.takeFromQueue.unboundRoles = s.unboundRoles := rfl
    have hunready : s.takeFromQueue.unreadyRoles = s.unreadyRoles := rfl
    have hcauses : s.takeFromQueue.protection.causes.requestedTrip = s.protection.causes.requestedTrip := rfl
    unfold handleGoOnline
    rw [State.takeFromQueue_link_mode, hunbound, hunready, hcauses]
    cases hm : s.link.mode with
    | tripped =>
      obtain rfl : _ = x := by simpa [refusal, hm] using hx
      rfl
    | running =>
      obtain rfl : _ = x := by simpa [refusal, hm] using hx
      rfl
    | offline =>
      simp only [refusal, hm, reduceCtorEq, if_false] at hx
      dsimp only
      split at hx
      · cases hx; rw [if_pos ‹_›]; rfl
      · rw [if_neg ‹_›]
        split at hx
        · cases hx; rw [if_pos ‹_›]
        · rw [if_neg ‹_›]
          split at hx
          · cases hx; rw [if_pos ‹_›]
          · cases hx

/-! ### LINE_RESTART (10.1.3) -/

section restart
variable {s t u : State}

/-- R189: at most `k` notices are queued behind those that wait, and with room for them no flag changes. -/
def Queues (k : Nat) (s t : State) : Prop :=
  s.link.notices <+: t.link.notices ∧ t.link.notices.length ≤ s.link.notices.length + k
    ∧ (s.link.notices.length + k ≤ 32 → t.link.flags = s.link.flags)

theorem Queues.refl (s : State) (k : Nat) : Queues k s s := ⟨List.prefix_rfl, Nat.le_add_right _ _, fun _ => rfl⟩

theorem Queues.trans {k m : Nat} (h : Queues k s t) (h' : Queues m t u) : Queues (k + m) s u := by
  obtain ⟨hprefix, hlength, hflags⟩ := h
  obtain ⟨hprefix', hlength', hflags'⟩ := h'
  refine ⟨hprefix.trans hprefix', by omega, fun hroom => ?_⟩
  rw [hflags' (by omega), hflags (by omega)]

theorem raise_queues (n : Notice) : Queues 1 s (s.raise n) := by
  have hsize : Config.noticeQueueSize = 32 := rfl
  obtain ⟨-, h⟩ | ⟨-, -, h⟩ | ⟨-, hfull, h⟩ := State.raise_cases n s
  · rw [h]; exact .refl s 1
  · rw [h]; exact ⟨List.prefix_append .., by simp, fun _ => rfl⟩
  · rw [h]
    exact ⟨List.prefix_rfl, Nat.le_add_right _ _, fun hroom => absurd hfull (by omega)⟩

theorem noteStation_queues (before : Vector Station 4) (i : StationNo) : Queues 1 s (s.noteStation before i) := by
  unfold State.noteStation
  dsimp only
  split
  · exact .refl s 1
  · exact raise_queues _

theorem noteStations_queues (before : Vector Station 4) : Queues 4 s (s.noteStations before) := by
  have hlist (l : List StationNo) (t : State) : Queues l.length t (l.foldl (fun t i => t.noteStation before i) t) := by
    induction l generalizing t with
    | nil => exact .refl t 0
    | cons i l ih =>
      have h := (noteStation_queues before i).trans (ih (t.noteStation before i))
      rwa [Nat.add_comm] at h
  exact hlist allStations s

/-- R28, R60, R104, R132, R149, R179: what each block is after a LINE_RESTART. -/
def restarted (s : State) : State :=
  { s with
    link := { s.link with mode := .offline }
    tracker := s.tracker.restart
    stations := Vector.ofFn fun i : StationNo => (s.station i).restart
    chamber := s.chamber.restart
    shift := { s.shift with abandoned := s.shift.abandoned + s.tracker.abandoned }
    protection := { s.protection with causes := .empty, clearHold := none }
    sample := s.sample.restart }

theorem lineRestart_eq : s.lineRestart = (restarted s).noteStations s.stations := rfl

theorem restarted_station (i : StationNo) : (restarted s).station i = (s.station i).restart := by
  unfold restarted State.station
  exact getElem_ofFn ..

theorem restart_state (st : Station) : st.restart.state = if st.state = .locked then .locked else .idle := rfl

/-- R30, R75: after a LINE_RESTART no output is on. -/
theorem restarted_driven : (restarted s).driven = Pins.released := by
  have hneedle (i : StationNo) : ((restarted s).station i).state.needle = false := by
    rw [restarted_station, restart_state]; split <;> rfl
  have hevac (i : StationNo) : ((restarted s).station i).state.evac = false := by
    rw [restarted_station, restart_state]; split <;> rfl
  unfold State.driven
  simp only [hneedle, hevac]
  rfl

end restart

/-- Settles O22: LINE_RESTART, block by block. -/
theorem lineRestartClearsTheWork : Obligations.LineRestartClearsTheWork := by
  intro tag s ht
  have hexec := exec_reading (i := .lineRestart tag []) (a := ()) (reply := .bare .done) rfl rfl ht rfl
    (show handleLineRestart s.takeFromQueue = (s.takeFromQueue.lineRestart, .bare .done) from rfl)
  obtain ⟨t, hl⟩ : ∃ t, t = s.takeFromQueue.lineRestart := ⟨_, rfl⟩
  have hdiff : Differs [.notices] (restarted s.takeFromQueue) t := by
    rw [hl, lineRestart_eq]; exact noteStations_differs
  obtain ⟨hprefix, -, hflags⟩ : Queues 4 (restarted s.takeFromQueue) t := by
    rw [hl, lineRestart_eq]; exact noteStations_queues _
  rw [← hl] at hexec
  refine ⟨_, hexec, ?_, answered_sends ?_ ?_, ?_, ?_, fun hroom => ?_, ?_, ⟨?_, ?_, ?_, ?_, ?_, ?_⟩, fun i => ?_, ?_, ?_, ?_, ?_,
    ?_, ?_⟩
  · rw [State.sends_link_mode, hdiff.mode]; rfl
  · rw [hdiff.sending]; rfl
  · rw [hdiff.reply]; exact ht.1
  · rw [State.sends_link_requests, hdiff.requests]; rfl
  · rw [State.sends_link_enables, hdiff.enables]; rfl
  · rw [State.sends_link_flags, hflags (Nat.add_le_add_right hroom 4)]; rfl
  · rw [State.sends_link_notices]; exact hprefix
  · rw [State.sends_tracker, hdiff.tracker]; rfl
  · rw [State.sends_tracker, hdiff.tracker]; rfl
  · rw [State.sends_tracker, hdiff.tracker]; rfl
  · rw [State.sends_tracker, hdiff.tracker]; rfl
  · rw [State.sends_tracker, hdiff.tracker]; rfl
  · rw [State.sends_tracker, hdiff.tracker]; rfl
  · rw [State.sends_station, hdiff.station, restarted_station]
    exact ⟨rfl, rfl, rfl, rfl, rfl, rfl, rfl⟩
  · rw [State.sends_chamber, hdiff.chamber]; rfl
  · rw [State.sends_shift, hdiff.shift]; rfl
  · rw [State.sends_protection, hdiff.protection]; rfl
  · rw [State.sends_sample, hdiff.sample]; rfl
  · rw [State.sends_pins, ← restarted_driven (s := s.takeFromQueue)]
    unfold State.driven State.station
    rw [hdiff.stations, hdiff.chamber]
  · show ({ t with link := (t.sends _).link, pins := t.driven } : State) = { s with
      tracker := t.tracker, stations := t.stations, chamber := t.chamber, shift := t.shift, protection := t.protection
      sample := t.sample, link := (t.sends _).link, pins := t.driven }
    generalize (t.sends _).link = link
    generalize t.driven = pins
    rw [hdiff.within.eq_with, hdiff.receiverF, hdiff.receiverH]
    rfl

end Sys2Proof.Proofs.Restarting

/-! # The chamber's charge boundary, its requests and its scans (4.2 to 4.5) -/

namespace Sys2Proof.Proofs.Charging
open Sys2Proof Sys2Proof.Machine Sys2Proof.Proofs.Frames Sys2Proof.Proofs.Steps Sys2Proof.Proofs.Requests
open Sys2Proof.Proofs.Fields Sys2Proof.Proofs.Stations Sys2Proof.Proofs.Scanning Sys2Proof.Proofs.Closing
open Sys2Proof.Proofs.Soundness (findUnit_tag)
open Sys2Proof.Proofs.Receivers (usable_iff)
open Sys2Proof.Proofs.Tripping (clampTo_eq usable_true_iff)

set_option Elab.async false

/-! ### The charge boundary (4.4) -/

section boundary
variable {s : State}

/-- R79: a transition of mode or gas is staged. -/
theorem transitionPending_iff {c : Chamber} :
    c.transitionPending = true ↔ c.staged.mode ≠ c.inForce.mode ∨ c.staged.gas ≠ c.inForce.gas := by
  simp [Chamber.transitionPending]

theorem legalised_keeps (c : ChamberSettings) : c.legalised = { c with s := c.legalised.s, e := c.legalised.e } := by
  unfold ChamberSettings.legalised
  dsimp only
  repeat' split
  all_goals rfl

theorem loadable_iff {n : Nat} {u : UnitRecord} {k : Fin 32} {c : ClassEntry} (hu : s.findUnit n = some u) (hk : u.cls = k.val)
    (hc : s.tracker.classes[k] = some c) : s.loadable n = true ↔ c.foamGas = none ∨ c.foamGas = some s.chamber.inForce.gas := by
  unfold State.loadable
  rw [hu, Option.bind_some, classEntry_of hk hc]
  cases hg : c.foamGas <;> simp [hg]

/-- R85, steps 1 to 3: the settings taken up. -/
def takenUp (c : Chamber) : Chamber :=
  { c with counter := nextChargeNumber c.counter, inForce := c.staged.legalised, stagingPending := false, startPending := false }

theorem applySettings_differs : Differs [.chamber, .notices] s s.applySettings := by
  unfold State.applySettings
  dsimp only
  split
  · exact (setChamber_differs.seq raise_differs).within
  · exact setChamber_differs.within

theorem applySettings_chamber : s.applySettings.chamber = takenUp s.chamber := by
  unfold State.applySettings
  dsimp only
  split
  · rw [raise_differs.chamber]; rfl
  · rfl

/-- R86: the units that a boundary loads. -/
def loads (s : State) : List Nat :=
  if s.chamber.startPending || s.chamber.transitionPending then [] else s.applySettings.unitsToLoad

theorem boundary_tracker : s.boundary.tracker
    = { s.tracker with
        shredQueue := s.tracker.shredQueue.drop (loads s).length
        units := s.tracker.units.map fun u =>
          if u.tag ∈ loads s then { u with state := .inCharge, charge := some (nextChargeNumber s.chamber.counter) } else u } := by
  have hcounter : s.applySettings.chamber.counter = nextChargeNumber s.chamber.counter := by rw [applySettings_chamber]; rfl
  unfold State.boundary
  rw [raise_differs.tracker, hcounter]
  dsimp only [State.loadUnits, State.setChamber_tracker, State.setTracker_tracker]
  rw [applySettings_differs.tracker]
  rfl

theorem boundary_chamber : s.boundary.chamber = { takenUp s.chamber with
    standing := .charging (newCharge (nextChargeNumber s.chamber.counter)
      (s.chamber.startPending || s.chamber.transitionPending) (loads s) s.chamber.baseline s.chamber.baselineHigh) } := by
  unfold State.boundary
  rw [raise_differs.chamber]
  dsimp only [State.loadUnits, State.setChamber_chamber, State.setTracker_chamber]
  rw [applySettings_chamber]
  rfl

theorem loads_void (h : s.chamber.startPending = true ∨ s.chamber.transitionPending = true) : loads s = [] := by
  refine if_pos ?_
  rwa [Bool.or_eq_true]

/-- R79: a boundary with a start or a transition pending. -/
theorem boundary_void (h : s.chamber.startPending = true ∨ s.chamber.transitionPending = true) :
    s.boundary.tracker = s.tracker ∧ s.boundary.chamber = { takenUp s.chamber with
      standing := .charging (newCharge (nextChargeNumber s.chamber.counter) true [] s.chamber.baseline s.chamber.baselineHigh) } := by
  have hvoid : (s.chamber.startPending || s.chamber.transitionPending) = true := by rwa [Bool.or_eq_true]
  rw [boundary_tracker, boundary_chamber, loads_void h, hvoid]
  exact ⟨by simp, rfl⟩

/-- R86: the longest run of loadable units at the head of the queue, at most `k`. -/
theorem take_takeWhile_split (p : Nat → Bool) (l : List Nat) (k : Nat) :
    let run := (l.takeWhile p).take k
    l = run ++ l.drop run.length ∧ run.length ≤ k ∧ (∀ n ∈ run, p n = true)
      ∧ ∀ n, (l.drop run.length).head? = some n → run.length < k → p n = false := by
  intro run
  have hprefix : run <+: l := (List.take_prefix k _).trans (List.takeWhile_prefix p)
  refine ⟨(List.prefix_iff_eq_append.mp hprefix).symm, List.length_take_le k _, fun n hn => ?_, fun n hn hk => ?_⟩
  · exact List.all_eq_true.mp List.all_takeWhile n (List.mem_of_mem_take hn)
  · have hrun : run = l.takeWhile p := List.take_of_length_le (by
      have : run.length = min k (l.takeWhile p).length := List.length_take
      omega)
    have hrest : l.drop (l.takeWhile p).length = l.dropWhile p := by
      calc l.drop (l.takeWhile p).length = (l.takeWhile p ++ l.dropWhile p).drop (l.takeWhile p).length := by
            rw [List.takeWhile_append_dropWhile]
        _ = l.dropWhile p := List.drop_left
    have hhead := List.head?_dropWhile_not p l
    rw [hrun, hrest] at hn
    rwa [hn] at hhead

theorem loadable_applySettings (h : s.chamber.transitionPending = false) (n : Nat) :
    s.applySettings.loadable n = s.loadable n := by
  have hgas : s.applySettings.chamber.inForce.gas = s.chamber.inForce.gas := by
    rw [applySettings_chamber, takenUp, legalised_keeps]
    simpa [Chamber.transitionPending] using (Bool.or_eq_false_iff.mp h).2
  unfold State.loadable State.findUnit State.classEntry
  rw [applySettings_differs.tracker, hgas]

theorem nextChargeNumber_eq (n : Nat) : nextChargeNumber n = if n = 65535 then 65535 else n + 1 := by
  unfold nextChargeNumber
  split
  · rename_i h
    exact Eq.trans h (if_pos h).symm
  · rename_i h
    exact (if_neg h).symm

/-- R82: what a WAITING chamber decides. -/
theorem waitingDecision_waiting (h : s.chamber.standing = .waiting) : s.waitingDecision =
    if s.chamber.transitionPending then s.boundary
    else match s.tracker.shredQueue with
      | [] => s
      | n :: _ => if s.loadable n then s.boundary else s.mismatchReport n := by
  unfold State.waitingDecision
  rw [h] <;> rfl

theorem waitingDecision_other (h : s.chamber.standing ≠ .waiting) : s.waitingDecision = s := by
  unfold State.waitingDecision
  split
  · contradiction
  · rfl

/-- R83: the report of an unloadable head. -/
theorem mismatchReport_eq {n : Nat} {u : UnitRecord} {k : Fin 32} {c : ClassEntry} {g : GasIndex} (hu : s.findUnit n = some u)
    (hk : u.cls = k.val) (hc : s.tracker.classes[k] = some c) (hg : c.foamGas = some g) :
    s.mismatchReport n = if s.chamber.lastMismatch = some (n, u.admission) then s
      else ({ s with chamber := { s.chamber with lastMismatch := some (n, u.admission) } } : State).raise
        (.modeMismatch n g s.chamber.inForce.mode s.chamber.inForce.gas) := by
  have htag : u.tag = n := findUnit_tag hu
  unfold State.mismatchReport
  simp only [hu, classEntry_of hk hc, Option.bind_some, hg, htag]
  rfl

end boundary

/-- Settles O44: the boundary and the waiting decision. -/
theorem boundaryLoadsFromTheHead : Obligations.BoundaryLoadsFromTheHead := by
  refine ⟨fun s n u k c hu hk hc => loadable_iff hu hk hc, fun s => ?_⟩
  intro starts transition number begun
  have hpending : s.chamber.transitionPending = true ↔ transition := transitionPending_iff
  have hnumber : nextChargeNumber s.chamber.counter = number := nextChargeNumber_eq _
  have hchamber := boundary_chamber (s := s)
  have htracker := boundary_tracker (s := s)
  rw [hnumber] at hchamber htracker
  have hbegun (void : Bool) (loaded : List Nat) : ({ takenUp s.chamber with
      standing := .charging (newCharge number void loaded s.chamber.baseline s.chamber.baselineHigh) } : Chamber) = begun void loaded := by
    unfold takenUp
    rw [hnumber]
    rfl
  rw [hbegun] at hchamber
  refine ⟨?_, fun hstarts htrans => ?_, fun hvoid => ?_, waitingDecision_other, fun hw ht => ?_, fun hw ht he => ?_,
    fun n rest hw ht hq => ⟨fun hl => ?_, fun u k c g hl hu hk hc hg => ?_⟩⟩
  · have hdiff : Differs [.tracker, .chamber, .notices] s s.boundary := boundary_differs
    rw [hdiff.within.eq_with, hdiff.stations, hdiff.receiverF, hdiff.receiverH, hdiff.shift, hdiff.protection]
  · have hstart : s.chamber.startPending = false := Bool.eq_false_iff.mpr hstarts
    have hquiet : s.chamber.transitionPending = false := Bool.eq_false_iff.mpr (mt hpending.mp htrans)
    have hloads : loads s = (s.tracker.shredQueue.takeWhile s.loadable).take s.chamber.staged.k := by
      unfold loads State.unitsToLoad
      rw [hstart, hquiet, applySettings_differs.tracker, applySettings_chamber, funext (loadable_applySettings hquiet),
        takenUp, legalised_keeps]
      rfl
    obtain ⟨hsplit, hlength, hall, hhead⟩ := take_takeWhile_split s.loadable s.tracker.shredQueue s.chamber.staged.k
    rw [← hloads] at hsplit hlength hall hhead
    rw [hstart, hquiet] at hchamber
    exact ⟨loads s, _, hsplit, hlength, hall, hhead, htracker, hchamber⟩
  · obtain ⟨htracker, hchamber⟩ := boundary_void (hvoid.imp_right hpending.mpr)
    rw [hnumber, hbegun] at hchamber
    exact ⟨htracker, hchamber⟩
  · rw [waitingDecision_waiting hw, if_pos (hpending.mpr ht)]
  · rw [waitingDecision_waiting hw, if_neg (mt hpending.mp ht), he]
  · rw [waitingDecision_waiting hw, if_neg (mt hpending.mp ht), hq]
    exact if_pos hl
  · rw [waitingDecision_waiting hw, if_neg (mt hpending.mp ht), hq]
    exact (if_neg (Bool.eq_false_iff.mp hl)).trans (mismatchReport_eq hu hk hc hg)

/-! ### The chamber's requests (4.2 to 4.4) -/

section requests
variable {s : State} {o : SettingsOperands} {g : GasIndex}

theorem readSettings_bytes (h1 : o.gas < 256) (h2 : o.b < 65536) (h3 : o.x < 256) (h4 : o.s < 2 ^ 32) (h5 : o.e < 2 ^ 32)
    (h6 : o.k < 256) : readSettings o.bytes = some o := by
  rw [readSettings, ofLength_eq (by simp [SettingsOperands.bytes])]
  simp (disch := simp) only [SettingsOperands.bytes, List.append_assoc, familyAt_here, field_skip, field_here, field_last,
    leBytes_length, Nat.reduceSub, Nat.reducePow, Option.map_some]
  have hs : o.s % 4294967296 = o.s := Nat.mod_eq_of_lt h4
  have he : o.e % 4294967296 = o.e := Nat.mod_eq_of_lt h5
  rw [Nat.mod_eq_of_lt h1, Nat.mod_eq_of_lt h2, Nat.mod_eq_of_lt h3, hs, he, Nat.mod_eq_of_lt h6]

theorem gasSuits_iff {mode : Family} : s.gasSuits mode g = true ↔ ∃ e, s.gases[g] = some e ∧ e.family = mode := by
  unfold State.gasSuits State.gas
  cases s.gases[g] <;> simp

theorem clamped_eq : o.clamped g =
    { mode := o.mode, gas := g, b := max 256 (min o.b 16384), x := min o.x 15, s := o.s, e := o.e
      k := max 1 (min o.k 8) } := by
  unfold SettingsOperands.clamped clampInto
  rw [Nat.zero_max]

theorem clampChanged_iff : o.clampChanged (o.clamped g) = true
    ↔ ¬ (256 ≤ o.b ∧ o.b ≤ 16384 ∧ o.x ≤ 15 ∧ 1 ≤ o.k ∧ o.k ≤ 8) := by
  rw [clamped_eq]
  simp only [SettingsOperands.clampChanged, Bool.or_eq_true, decide_eq_true_eq]
  omega

theorem stageStatus_eq : (if o.clampChanged (o.clamped g) then Status.clamped else .staged)
    = if 256 ≤ o.b ∧ o.b ≤ 16384 ∧ o.x ≤ 15 ∧ 1 ≤ o.k ∧ o.k ≤ 8 then .staged else .clamped := by
  by_cases h : 256 ≤ o.b ∧ o.b ≤ 16384 ∧ o.x ≤ 15 ∧ 1 ≤ o.k ∧ o.k ≤ 8
  · rw [if_neg (fun e => clampChanged_iff.mp e h), if_pos h]
  · rw [if_pos (clampChanged_iff.mpr h), if_neg h]

theorem handleStage_tripped (h : s.link.mode = .tripped) : handleStage o s = s.refuse .wrongMode := if_pos h

theorem handleStage_numbered (h : s.link.mode ≠ .tripped) (hg : o.gas = g.val) : handleStage o s =
    if s.gasSuits o.mode g then
      ((s.setChamber { s.chamber with staged := o.clamped g, stagingPending := true }).waitingDecision,
        ⟨if o.clampChanged (o.clamped g) then .clamped else .staged, (o.clamped g).bytes⟩)
    else s.refuse .outOfRange := by
  unfold handleStage
  rw [if_neg h, hg, numbered_val]

theorem handleStage_unnumbered (h : s.link.mode ≠ .tripped) (hg : 7 < o.gas) : handleStage o s = s.refuse .outOfRange := by
  unfold handleStage numbered
  rw [if_neg h, dif_neg (by omega)]

theorem handleStart_stopped (h : s.link.mode = .running) (hs : s.chamber.standing = .stopped) : handleStart s =
    if s.gasSuits s.chamber.staged.mode s.chamber.staged.gas then
      ((s.setChamber { s.chamber with startPending := true }).boundary,
        ⟨.done, leBytes 2 (s.setChamber { s.chamber with startPending := true }).boundary.chamber.counter⟩)
    else s.refuse .notReady := by
  unfold handleStart
  rw [if_neg (by rw [h]; exact fun e => e rfl), hs]

theorem handleStart_wrongMode (h : s.link.mode ≠ .running) : handleStart s = s.refuse .wrongMode := if_pos h

theorem handleStart_wrongState (h : s.link.mode = .running) (hs : s.chamber.standing ≠ .stopped) :
    handleStart s = s.refuse .wrongState := by
  unfold handleStart
  rw [if_neg (by rw [h]; exact fun e => e rfl)]
  split
  · contradiction
  · rfl

end requests

/-- Settles O42: the chamber staged, started and stopped. -/
theorem chamberIsStagedStartedAndStopped : Obligations.ChamberIsStagedStartedAndStopped := by
  refine ⟨fun tag o s ht h1 h2 h3 h4 h5 h6 => ?_, fun tag s => ⟨fun ht => ?_, fun ht => ?_⟩⟩
  · intro answer
    have answered {t : State} {r : Reply} (h : handleStage o s.takeFromQueue = (t, r)) : answer t r.status r.body :=
      exec_reading (i := .stageChamberSettings tag o.bytes) rfl rfl ht (readSettings_bytes h1 h2 h3 h4 h5 h6) h
    refine ⟨fun h => answered (handleStage_tripped h), fun h hg => ?_, fun g e h hg he hf => ?_⟩
    · obtain hg | ⟨g, hg, hno⟩ := hg
      · exact answered (handleStage_unnumbered h hg)
      · refine answered ((handleStage_numbered (s := s.takeFromQueue) h hg).trans (if_neg fun hsuits => ?_))
        obtain ⟨e, he, hf⟩ := gasSuits_iff.mp hsuits
        exact hno e he hf
    · intro staged kept
      have hsuits : s.takeFromQueue.gasSuits o.mode g = true := gasSuits_iff.mpr ⟨e, he, hf⟩
      have hhandled := (handleStage_numbered (s := s.takeFromQueue) h hg).trans (if_pos hsuits)
      have hkept : s.takeFromQueue.setChamber { s.takeFromQueue.chamber with staged := o.clamped g, stagingPending := true }
          = kept := by rw [clamped_eq]; rfl
      have hdecided : (if s.chamber.standing = .waiting then kept.waitingDecision else kept) = kept.waitingDecision := by
        split
        · rfl
        · exact (waitingDecision_other ‹_›).symm
      rw [hkept, stageStatus_eq, clamped_eq] at hhandled
      rw [hdecided]
      exact answered hhandled
  · intro refused suits
    have answered {t : State} {r : Reply} (h : handleStart s.takeFromQueue = (t, r)) :=
      exec_reading (i := .startChamber tag []) (a := ()) rfl rfl ht rfl h
    have hsuits : s.takeFromQueue.gasSuits s.chamber.staged.mode s.chamber.staged.gas = true ↔ suits := gasSuits_iff
    refine ⟨fun h => answered (r := .bare .wrongMode) (handleStart_wrongMode h),
      fun h hs => answered (r := .bare .wrongState) (handleStart_wrongState h hs), fun h hs hno => ?_, fun h hs hyes => ?_⟩
    · exact answered (r := .bare .notReady) ((handleStart_stopped (s := s.takeFromQueue) h hs).trans (if_neg (mt hsuits.mp hno)))
    · intro number
      have hhandled := (handleStart_stopped (s := s.takeFromQueue) h hs).trans (if_pos (hsuits.mpr hyes))
      obtain ⟨u, hu⟩ : ∃ u, u = s.takeFromQueue.setChamber { s.takeFromQueue.chamber with startPending := true } := ⟨_, rfl⟩
      rw [← hu] at hhandled
      obtain ⟨htracker, hchamber⟩ := boundary_void (s := u) (.inl (by rw [hu]; rfl))
      have hnumber : nextChargeNumber u.chamber.counter = number := by rw [hu]; exact nextChargeNumber_eq _
      have hdiff : Differs [.tracker, .chamber, .notices] u u.boundary := boundary_differs
      have hcounter : u.boundary.chamber.counter = number := by rw [hchamber, ← hnumber]; rfl
      rw [hnumber] at hchamber
      rw [hcounter] at hhandled
      refine ⟨_, answered hhandled, ?_, ?_, ?_, ?_⟩
      · rw [hchamber, takenUp, hnumber, hu]
        rfl
      · rw [htracker, hu]; rfl
      · rw [hdiff.stations, hu]; rfl
      · rw [hdiff.within.eq_with, hdiff.stations, hdiff.receiverF, hdiff.receiverH, hdiff.shift, hdiff.protection, hu]
        rfl
  · intro answer
    have answered {t : State} {r : Reply} (h : handleStop s.takeFromQueue = (t, r)) :=
      exec_reading (i := .stopChamber tag []) (a := ()) rfl rfl ht rfl h
    have hchamber : s.takeFromQueue.chamber = s.chamber := rfl
    refine ⟨fun h => answered (r := .bare .done) ?_, fun c h hp => answered (r := .bare .staged) ?_,
      fun c h hp => answered (r := .bare .ignored) ?_, fun h => answered (r := .bare .ignored) ?_⟩
    · unfold handleStop
      rw [hchamber, h]
      rfl
    · unfold handleStop
      rw [hchamber, h]
      exact if_neg (by rw [hp]; exact Bool.false_ne_true)
    · unfold handleStop
      rw [hchamber, h]
      exact if_pos hp
    · unfold handleStop
      rw [hchamber]
      obtain h | h := h
      · rw [h]; rfl
      · rw [h]; rfl

/-! ### A published scan at the chamber (4.5, 5.4) -/

section scans
variable {s : State} {x : Scan} {c : Charge}

theorem clampChanges_eq (most : Nat) (raw : Int) : clampChanges most raw = decide (raw < 0 ∨ (most : Int) < raw) := by
  unfold clampChanges
  rw [Bool.decide_or]

theorem silent_eq (y : Condition) : y.silent = decide (y = .lost ∨ y = .absent) := by cases y <;> rfl

theorem noteClamp_eq (b : Bool) : c.noteClamp b = { c with
    clampedScans := c.clampedScans + (if b then 1 else 0), flags := { c.flags with clampedScans := c.flags.clampedScans || b } } := by
  cases b
  · simp [Charge.noteClamp]
  · simp [Charge.noteClamp]

/-- R88. -/
theorem inertCheck_eq (permit : Nat) : inertCheck permit x = decide (((x.role roleChamberOxygen).condition = .valid
    ∨ (x.role roleChamberOxygen).condition = .held) ∧ (x.role roleChamberOxygen).value ≤ (permit : Int)) := by
  unfold inertCheck
  dsimp only
  rw [usable_iff, Bool.decide_and]

/-- R92. -/
theorem ventClear_iff (level : Nat) : ventClear level x = true ↔ ((x.role roleChamberConc).condition = .valid
    ∨ (x.role roleChamberConc).condition = .held) ∧ limited 60000 (x.role roleChamberConc).value < level := by
  unfold ventClear
  dsimp only
  rw [clampTo_eq, Bool.and_eq_true, usable_true_iff, decide_eq_true_eq]
  rfl

theorem chamberScan_charging (h : s.chamber.standing = .charging c) : s.chamberScan x =
    match c.phase with
    | .load => s.loadScan c x
    | .inertWait => s.setCharge (c.afterInertCheck (inertCheck s.chamber.limits.inertPermit x))
    | .window => s.integrateThen c x State.windowScan
    | .tail => s.tailScan c x
    | .ventWait => s.integrateThen c x (State.ventScan x) := by
  unfold State.chamberScan
  rw [h] <;> rfl

theorem chamberScan_load (h : s.chamber.standing = .charging c) (hp : c.phase = .load) :
    s.chamberScan x = s.loadScan c x := by
  simp only [chamberScan_charging h, hp]

theorem chamberScan_inertWait (h : s.chamber.standing = .charging c) (hp : c.phase = .inertWait) :
    s.chamberScan x = s.setCharge (c.afterInertCheck (inertCheck s.chamber.limits.inertPermit x)) := by
  simp only [chamberScan_charging h, hp]

theorem chamberScan_tail (h : s.chamber.standing = .charging c) (hp : c.phase = .tail) :
    s.chamberScan x = s.tailScan c x := by
  simp only [chamberScan_charging h, hp]

/-- R91: a TAIL scan with a usable concentration. -/
theorem sumTail_usable (m : Family) (h : (x.role roleChamberConc).condition = .valid ∨ (x.role roleChamberConc).condition = .held) :
    let conc := (x.role roleChamberConc).value
    let clamped := decide (conc < 0 ∨ 60000 < conc)
    c.sumTail m x = { c with
      index := c.index + 1, tailSum := c.tailSum + limited 60000 conc, tailCount := c.tailCount + 1
      clampedScans := c.clampedScans + (if clamped then 1 else 0)
      flags := { c.flags with clampedScans := c.flags.clampedScans || clamped } } := by
  intro conc clamped
  have hs : (x.role roleChamberConc).condition.silent = false := by obtain h | h := h <;> rw [h] <;> rfl
  unfold Charge.sumTail
  simp only [hs, Bool.false_eq_true, if_false, noteClamp_eq, clampTo_eq, clampChanges_eq]
  rfl

/-- R91: a TAIL scan with a silent concentration. -/
theorem sumTail_silent (m : Family) (h : (x.role roleChamberConc).condition = .lost ∨ (x.role roleChamberConc).condition = .absent) :
    c.sumTail m x = { c with
      index := c.index + 1, tailClean := false
      flags := { c.flags with signalLost := c.flags.signalLost || decide (m = .fluorinated) } } := by
  have hs : (x.role roleChamberConc).condition.silent = true := by obtain h | h := h <;> rw [h] <;> rfl
  unfold Charge.sumTail
  simp only [hs, if_true]

/-- R92: the period test of a TAIL scan. -/
def periodTest (s : State) (x : Scan) (c : Charge) : State :=
  if c.index = s.chamber.inForce.period then
    if ventClear s.chamber.limits.ventLevel x then s.endNormally c
    else s.setCharge { c with phase := .ventWait, waitElapsed := 0, vented := true }
  else s.setCharge c

theorem tailScan_eq : s.tailScan c x =
    if s.chamber.inForce.mode = .hydrocarbon ∧ (x.role roleChamberConc).condition.silent = true then
      (s.setCharge (c.sumTail s.chamber.inForce.mode x)).addCauses .ofSignalLost
    else periodTest s x (c.sumTail s.chamber.inForce.mode x) := by
  unfold State.tailScan
  simp only [Bool.and_eq_true, decide_eq_true_eq]
  rfl

end scans

/-- Settles O45: a scan in the phases that only count, and with no charge. -/
theorem chamberScanCountsThePhases : Obligations.ChamberScanCountsThePhases := by
  intro x s hx oxygen inert conc becomes clear tested
  have hexec := exec_taken (i := .chamberScan) rfl hx
  obtain ⟨u, hu⟩ : ∃ u, u = s.taking .chamber := ⟨_, rfl⟩
  have hchamber : u.chamber = s.chamber := by rw [hu]; rfl
  rw [← hu] at hexec
  have hinert : inertCheck s.chamber.limits.inertPermit x = inert := inertCheck_eq _
  have hset (c : Charge) (h : u.chamberScan x = u.setCharge c) : becomes c := by
    show exec .chamberScan s = .next (State.settle ((s.taking .chamber).setChamber _))
    rw [hexec, h, ← hu, State.setCharge, hchamber]
  have htest (c : Charge) (h : u.chamberScan x = periodTest u x c) : tested c := by
    have hclear : ventClear u.chamber.limits.ventLevel x = true ↔ clear := by rw [hchamber]; exact ventClear_iff _
    unfold periodTest at h
    rw [hchamber] at h hclear
    refine ⟨fun hp => hset c (h.trans (if_neg hp)), fun hp hc => ?_, fun hp hc => ?_⟩
    · rw [hexec, h, if_pos hp, if_pos (hclear.mpr hc), hu]
    · exact hset _ (h.trans ((if_pos hp).trans (if_neg (mt hclear.mp hc))))
  refine ⟨fun c hc => ?_, fun hno => ?_⟩
  · have huc : u.chamber.standing = .charging c := by rw [hchamber]; exact hc
    refine ⟨fun hp hi => ?_, fun hp hi => ⟨fun hgo => ?_, fun hh hwait => ?_⟩, fun hp => ?_, fun hp hconc => ?_, fun hp hf hconc => ?_,
      fun hp hh hconc => ?_⟩
    · refine hset _ ((chamberScan_load huc hp).trans ?_)
      unfold State.loadScan
      rw [hchamber]
      exact if_neg hi
    · refine hset _ ((chamberScan_load huc hp).trans ?_)
      unfold State.loadScan
      rw [hchamber]
      refine (if_pos hi).trans ?_
      obtain hf | hok := hgo
      · rw [hf]
      · cases s.chamber.inForce.mode with
        | fluorinated => rfl
        | hydrocarbon =>
          rw [hinert, hok]
          exact congrArg u.setCharge (if_pos rfl)
    · refine hset _ ((chamberScan_load huc hp).trans ?_)
      unfold State.loadScan
      rw [hchamber]
      refine (if_pos hi).trans ?_
      rw [hh, hinert, hwait]
      refine congrArg u.setCharge ((if_neg Bool.false_ne_true).trans (if_neg ?_))
      show c.phase ≠ _
      rw [hp]; exact fun e => nomatch e
    · refine hset _ ((chamberScan_inertWait huc hp).trans ?_)
      rw [hchamber, hinert]
      cases inert with
      | true => rfl
      | false => exact congrArg u.setCharge ((if_neg Bool.false_ne_true).trans (if_pos hp))
    · refine htest _ ((chamberScan_tail huc hp).trans ?_)
      have htail := sumTail_usable (c := c) s.chamber.inForce.mode hconc
      rw [tailScan_eq, if_neg, hchamber, htail]
      rintro ⟨-, hsilent⟩
      obtain h | h := hconc
      · rw [h] at hsilent; cases hsilent
      · rw [h] at hsilent; cases hsilent
    · refine htest _ ((chamberScan_tail huc hp).trans ?_)
      have htail := sumTail_silent (c := c) s.chamber.inForce.mode hconc
      rw [hf, decide_eq_true rfl, Bool.or_true] at htail
      rw [tailScan_eq, if_neg, hchamber, hf, htail]
      rintro ⟨hsilent, -⟩
      rw [hchamber, hf] at hsilent
      cases hsilent
    · have hsilent : conc.condition.silent = true := by rw [silent_eq]; exact decide_eq_true hconc
      have htail := sumTail_silent (c := c) s.chamber.inForce.mode hconc
      rw [hh, decide_eq_false (fun e => nomatch e), Bool.or_false] at htail
      rw [hexec, chamberScan_tail huc hp, tailScan_eq, if_pos ⟨by rw [hchamber, hh], hsilent⟩, hchamber, hh, htail, State.setCharge,
        hchamber, hu]
      rfl
  · have hscan : u.chamberScan x = u := by
      unfold State.chamberScan
      rw [hchamber]
      obtain h | h | h := hno <;> rw [h] <;> rfl
    rw [hexec, hscan, hu]

/-! ### An integrated scan (R90, R113 to R115) -/

section integration
variable {s : State} {x : Scan} {c : Charge}

theorem silentChamber_eq : silentChamber x = decide ((x.role roleChamberFlow).condition = .lost
    ∨ (x.role roleChamberFlow).condition = .absent ∨ (x.role roleChamberConc).condition = .lost
    ∨ (x.role roleChamberConc).condition = .absent) := by
  unfold silentChamber
  rw [silent_eq, silent_eq, ← Bool.decide_or, decide_eq_decide, or_assoc]

theorem integrate_eq (density : Nat) :
    let flow := x.role roleChamberFlow
    let conc := x.role roleChamberConc
    let held := decide (flow.condition = .held ∨ conc.condition = .held)
    let clamped := decide (flow.value < 0 ∨ 30000 < flow.value ∨ conc.value < 0 ∨ 60000 < conc.value)
    let product := if silentChamber x then 0
      else min (limited 30000 flow.value * x.elapsed * (limited 60000 conc.value - c.baselineUsed) * density)
        18446744073709551615
    let total := min (product + c.residue) 18446744073709551615
    c.integrate density x = { c with
      mass := min (c.mass + total / 100000) 18446744073709551615, residue := total % 100000
      scansIntegrated := c.scansIntegrated + 1, heldScans := c.heldScans + (if held then 1 else 0)
      clampedScans := c.clampedScans + (if clamped then 1 else 0)
      flags := { c.flags with
        signalLost := c.flags.signalLost || silentChamber x, clampedScans := c.flags.clampedScans || clamped } } := by
  intro flow conc held clamped product total
  have hclamped : (clampChanges chamberFlowMost flow.value || clampChanges chamberConcMost conc.value) = clamped := by
    rw [clampChanges_eq, clampChanges_eq, ← Bool.decide_or]
    exact decide_eq_decide.mpr or_assoc
  have hheld : (flow.condition = .held || conc.condition = .held) = held := (Bool.decide_or ..).symm
  have hproduct : (if silentChamber x then 0 else chamberProduct (clampTo chamberFlowMost flow.value) x.elapsed
      (effective (clampTo chamberConcMost conc.value) c.baselineUsed) density) = product := by
    rw [clampTo_eq, clampTo_eq]
    rfl
  have hadded (p : Nat) (hp : p = product) : c.addProduct p = { c with
      mass := min (c.mass + total / 100000) 18446744073709551615, residue := total % 100000 } := by rw [hp]; rfl
  have hform (d : Charge) (hd : c.addProduct (if silentChamber x then 0 else chamberProduct (clampTo chamberFlowMost flow.value)
      x.elapsed (effective (clampTo chamberConcMost conc.value) c.baselineUsed) density) = d) : c.integrate density x =
      ({ d with
        scansIntegrated := d.scansIntegrated + 1
        heldScans := d.heldScans + (if flow.condition = .held || conc.condition = .held then 1 else 0)
        flags := { d.flags with signalLost := d.flags.signalLost || silentChamber x } } : Charge).noteClamp
          (clampChanges chamberFlowMost flow.value || clampChanges chamberConcMost conc.value) := by rw [← hd]; rfl
  rw [hform _ (hadded _ hproduct), noteClamp_eq, hclamped, hheld]

theorem chamberScan_integrates (h : s.chamber.standing = .charging c) (hp : c.phase = .window ∨ c.phase = .ventWait) :
    s.chamberScan x = s.integrateThen c x fun d t => if c.phase = .window then t.windowScan d else t.ventScan x d := by
  rw [chamberScan_charging h]
  obtain hp | hp := hp
  · simp only [hp]
    rfl
  · simp only [hp]
    rfl

theorem windowScan_eq (h : c.phase = .window) : s.windowScan c = s.setCharge { c with
    index := c.index + 1, phase := if c.index + 1 = s.chamber.inForce.e then .tail else .window } := by
  unfold State.windowScan
  dsimp only
  split
  · rfl
  · rw [h]

end integration

/-- Settles O46: a scan integrated in WINDOW and VENT_WAIT. -/
theorem chamberScanIntegrates : Obligations.ChamberScanIntegrates := by
  intro x c gas s hx hc hp hgas flow conc silent held clamped product total after clear becomes
  have hexec := exec_taken (i := .chamberScan) rfl hx
  have hbecomes (d : Charge) : (s.taking .chamber).setCharge d = becomes d := rfl
  have hdensity : (s.taking .chamber).densityInForce = gas.density := by
    show ((s.gases[s.chamber.inForce.gas]).map (·.density)).getD 0 = _
    rw [hgas]; rfl
  have hsilent : silentChamber x = silent := silentChamber_eq
  have hafter : c.integrate gas.density x = after := by
    rw [integrate_eq, hsilent]
  have hclear : ventClear s.chamber.limits.ventLevel x = clear := by
    rw [Bool.eq_iff_iff, ventClear_iff, decide_eq_true_eq]
  have hscan := chamberScan_integrates (x := x) (s := s.taking .chamber) hc hp
  unfold State.integrateThen at hscan
  rw [hdensity, hafter, hsilent] at hscan
  refine ⟨fun hgo => ?_, fun hh hs => ?_⟩
  · have hintegrated : ¬ ((decide ((s.taking .chamber).chamber.inForce.mode = .hydrocarbon) && silent) = true) := by
      rw [Bool.and_eq_true, decide_eq_true_eq]
      rintro ⟨hm, hsil⟩
      obtain h | h := hgo
      · exact absurd (h.symm.trans hm) (fun e => nomatch e)
      · exact absurd (h.symm.trans hsil) Bool.false_ne_true
    rw [hexec, hscan, if_neg hintegrated]
    congr 2
    dsimp only
    by_cases hw : c.phase = .window
    · rw [if_pos hw, if_pos hw, windowScan_eq (show after.phase = .window from hw), hbecomes]
      rfl
    · rw [if_neg hw, if_neg hw]
      unfold State.ventScan
      rw [show (s.taking .chamber).chamber.limits.ventLevel = s.chamber.limits.ventLevel from rfl, hclear, hbecomes]
  · have hlost : (decide ((s.taking .chamber).chamber.inForce.mode = .hydrocarbon) && silent) = true := by
      rw [Bool.and_eq_true, decide_eq_true_eq]
      exact ⟨hh, hs⟩
    rw [hexec, hscan, if_pos hlost]
    rfl

end Sys2Proof.Proofs.Charging

/-! # Units created, withdrawn and taken (1.6) -/

namespace Sys2Proof.Proofs.Admission
open Sys2Proof Sys2Proof.Machine Sys2Proof.Proofs.Frames Sys2Proof.Proofs.Steps Sys2Proof.Proofs.Requests
open Sys2Proof.Proofs.Fields Sys2Proof.Proofs.Tables Sys2Proof.Proofs.Stations Sys2Proof.Proofs.Closing
open Sys2Proof.Proofs.SampleRequests (indicatorAt_here indicatorAt_skip)

set_option Elab.async false

/-! ### ADMIT_UNIT (1.6) -/

section creation
variable {s : State} {o : AdmitOperands} {c : ClassEntry}

theorem readAdmit_bytes (ht : o.tag < 2 ^ 32) (hc : o.cls < 256) (hn : ∀ x, o.nameplate = some x → x < 256 ^ 2)
    (hf : ∀ x, o.foamWeight = some x → x < 256 ^ 2) : readAdmit o.bytes = some o := by
  have htag : o.tag % 4294967296 = o.tag := Nat.mod_eq_of_lt ht
  rw [readAdmit, ofLength_eq (by simp [AdmitOperands.bytes])]
  simp (disch := simp) only [AdmitOperands.bytes, List.append_assoc, field_skip, field_here, optionalAt_skip,
    optionalAt_here _ hn, optionalAt_last _ hf, leBytes_length, optional_length, Nat.reduceSub, Nat.reducePow]
  rw [htag, Nat.mod_eq_of_lt hc]

/-- R23: what ADMIT_UNIT requires of a defined class and of the operands. -/
def InRange (s : State) (o : AdmitOperands) (c : ClassEntry) : Prop :=
  o.tag ≠ 0 ∧ (∀ g, c.circuitGas = some g → s.gases[g] ≠ none) ∧ (∀ g, c.foamGas = some g → s.gases[g] ≠ none)
    ∧ (∀ x, o.nameplate = some x → 1 ≤ x ∧ x ≤ 2000) ∧ ∀ x, o.foamWeight = some x → 1 ≤ x ∧ x ≤ 20000

theorem gasDefined_iff (g : Option GasIndex) : s.gasDefined g = true ↔ ∀ k, g = some k → s.gases[k] ≠ none := by
  cases g with
  | none => simp [State.gasDefined]
  | some k =>
    simp only [State.gasDefined, State.gas, Option.some.injEq, forall_eq', Option.isSome_iff_ne_none]

theorem inRangeIfPresent_iff (low high : Nat) (x : Option Nat) :
    inRangeIfPresent low high x = true ↔ ∀ n, x = some n → low ≤ n ∧ n ≤ high := by
  cases x <;> simp [inRangeIfPresent]

theorem inRange_iff : (decide (o.tag = 0) || !s.gasDefined c.circuitGas || !s.gasDefined c.foamGas
    || !inRangeIfPresent 1 2000 o.nameplate || !inRangeIfPresent 1 20000 o.foamWeight) = true ↔ ¬ InRange s o c := by
  unfold InRange
  rw [← gasDefined_iff, ← gasDefined_iff, ← inRangeIfPresent_iff, ← inRangeIfPresent_iff]
  simp only [Bool.or_eq_true, decide_eq_true_eq, Bool.not_eq_true', ← Bool.not_eq_true, or_assoc,
    Classical.not_and_iff_not_or_not, ne_eq, Classical.not_not]

theorem findUnit_isSome_iff (n : Nat) : (s.findUnit n).isSome = true ↔ ∃ u ∈ s.tracker.units, u.tag = n := by
  simp [State.findUnit]

theorem handleAdmit_wrongMode (h : s.link.mode ≠ .running) : handleAdmit o s = s.refuse .wrongMode := if_pos h

theorem handleAdmit_undefined (h : s.link.mode = .running) (hc : s.classEntry o.cls = none) :
    handleAdmit o s = s.refuse .outOfRange := by
  unfold handleAdmit
  rw [if_neg (by rw [h]; exact fun e => e rfl), hc]

/-- R23: the checks of ADMIT_UNIT for a defined class. -/
theorem handleAdmit_defined (h : s.link.mode = .running) (hc : s.classEntry o.cls = some c) : handleAdmit o s =
    if decide (o.tag = 0) || !s.gasDefined c.circuitGas || !s.gasDefined c.foamGas
        || !inRangeIfPresent 1 2000 o.nameplate || !inRangeIfPresent 1 20000 o.foamWeight then s.refuse .outOfRange
    else if (s.findUnit o.tag).isSome then s.refuse .duplicateTag
    else if 64 ≤ s.tracker.units.length then s.refuse .tableFull
    else (((s.createUnit o c.circuitGas.isSome).arbiterPass).noteStations s.stations,
      ⟨.done, leBytes 2 s.tracker.admissionCounter
        ++ leBytes 1 (if c.circuitGas.isSome then UnitState.admitted else .shredQueued).code⟩) := by
  unfold handleAdmit
  rw [if_neg (by rw [h]; exact fun e => e rfl), hc]
  rfl

theorem handleAdmit_outOfRange (h : s.link.mode = .running) (hc : s.classEntry o.cls = some c) (hr : ¬ InRange s o c) :
    handleAdmit o s = s.refuse .outOfRange :=
  (handleAdmit_defined h hc).trans (if_pos (inRange_iff.mpr hr))

theorem handleAdmit_duplicate (h : s.link.mode = .running) (hc : s.classEntry o.cls = some c) (hr : InRange s o c)
    (hd : ∃ u ∈ s.tracker.units, u.tag = o.tag) : handleAdmit o s = s.refuse .duplicateTag :=
  (handleAdmit_defined h hc).trans ((if_neg (mt inRange_iff.mp (not_not_intro hr))).trans (if_pos ((findUnit_isSome_iff _).mpr hd)))

/-- R23: a new tag of a defined class, in range: what is left is room in the table. -/
theorem handleAdmit_new (h : s.link.mode = .running) (hc : s.classEntry o.cls = some c) (hr : InRange s o c)
    (hd : ∀ u ∈ s.tracker.units, u.tag ≠ o.tag) : handleAdmit o s = if 64 ≤ s.tracker.units.length then s.refuse .tableFull
      else (((s.createUnit o c.circuitGas.isSome).arbiterPass).noteStations s.stations,
        ⟨.done, leBytes 2 s.tracker.admissionCounter
          ++ leBytes 1 (if c.circuitGas.isSome then UnitState.admitted else .shredQueued).code⟩) := by
  have hnew : ¬ (s.findUnit o.tag).isSome = true := mt (findUnit_isSome_iff _).mp fun ⟨u, hu, e⟩ => hd u hu e
  exact (handleAdmit_defined h hc).trans ((if_neg (mt inRange_iff.mp (not_not_intro hr))).trans (if_neg hnew))

theorem classEntry_val (n : Fin 32) : s.classEntry n.val = s.tracker.classes[n] := dif_pos n.isLt

theorem classEntry_beyond (h : 31 < o.cls) : s.classEntry o.cls = none := dif_neg (by omega)

/-- R23: the operands that ADMIT_UNIT refuses OUT_OF_RANGE. -/
def Outside (s : State) (o : AdmitOperands) : Prop :=
  o.tag = 0 ∨ 31 < o.cls ∨ (∃ n : Fin 32, o.cls = n.val ∧ s.tracker.classes[n] = none)
    ∨ (∃ (n : Fin 32) (c : ClassEntry) (g : GasIndex), o.cls = n.val ∧ s.tracker.classes[n] = some c
        ∧ (c.circuitGas = some g ∨ c.foamGas = some g) ∧ s.gases[g] = none)
    ∨ (∃ x, o.nameplate = some x ∧ (x < 1 ∨ 2000 < x)) ∨ ∃ x, o.foamWeight = some x ∧ (x < 1 ∨ 20000 < x)

theorem not_inRange_of_outside (h : Outside s o) (hc : s.classEntry o.cls = some c) : ¬ InRange s o c := by
  rintro ⟨htag, hcircuit, hfoam, hplate, hweight⟩
  obtain h | h | ⟨n, hn, h⟩ | ⟨n, d, g, hn, hd, hg, h⟩ | ⟨x, hx, h⟩ | ⟨x, hx, h⟩ := h
  · exact htag h
  · rw [classEntry_beyond h] at hc; cases hc
  · rw [hn, classEntry_val, h] at hc; cases hc
  · rw [hn, classEntry_val, hd] at hc
    cases hc
    obtain hg | hg := hg
    · exact hcircuit g hg h
    · exact hfoam g hg h
  · have := hplate x hx; omega
  · have := hweight x hx; omega

theorem inRange_of_not_outside (h : ¬ Outside s o) : ∃ c, s.classEntry o.cls = some c ∧ InRange s o c := by
  simp only [Outside, not_or, not_exists, not_and] at h
  obtain ⟨htag, hcls, hdefined, hgas, hplate, hweight⟩ := h
  have hn : o.cls < 32 := by omega
  obtain ⟨c, hc⟩ := Option.ne_none_iff_exists'.mp (hdefined ⟨o.cls, hn⟩ rfl)
  refine ⟨c, (classEntry_val ⟨o.cls, hn⟩).trans hc, htag, fun g hg => hgas ⟨o.cls, hn⟩ c g rfl hc (.inl hg),
    fun g hg => hgas ⟨o.cls, hn⟩ c g rfl hc (.inr hg), fun x hx => ?_, fun x hx => ?_⟩
  · have := hplate x hx; omega
  · have := hweight x hx; omega

theorem nextAdmission_eq (n : Nat) : nextAdmission n = if n = 65535 then 1 else n + 1 := rfl

theorem createUnit_circuit : s.createUnit o true = { s with
    tracker := { s.tracker with
      units := s.tracker.units ++ [newUnit o s.tracker.admissionCounter .admitted]
      admissionCounter := nextAdmission s.tracker.admissionCounter, degasQueue := s.tracker.degasQueue ++ [o.tag] } } := rfl

theorem createUnit_foam : s.createUnit o false =
    let created : State := { s with
      tracker := { s.tracker with
        units := s.tracker.units ++ [newUnit o s.tracker.admissionCounter .shredQueued]
        admissionCounter := nextAdmission s.tracker.admissionCounter, shredQueue := s.tracker.shredQueue ++ [o.tag] } }
    if s.tracker.shredQueue = [] then created.waitingDecision else created := by
  unfold State.createUnit State.joinShredQueue
  dsimp only
  rw [if_neg Bool.false_ne_true, if_neg Bool.false_ne_true]
  exact ite_congr (propext List.isEmpty_iff) (fun _ => rfl) fun _ => rfl

end creation

/-- Settles O28: ADMIT_UNIT, its checks in order and what it creates. -/
theorem admitUnitChecksAndCreates : Obligations.AdmitUnitChecksAndCreates := by
  refine ⟨fun tag o n c s ht hm h1 h2 hcls hc hcircuit hfoam hplate hweight hnew hroom => ?_,
    fun tag o s ht h1 h2 hplate hweight => ?_⟩
  · intro unit next reply
    have hentry : s.takeFromQueue.classEntry o.cls = some c := by
      rw [hcls, classEntry_val]; exact hc
    have hrange : InRange s.takeFromQueue o c := ⟨by omega, hcircuit, hfoam, hplate, hweight⟩
    have hhandled := (handleAdmit_new (s := s.takeFromQueue) hm hentry hrange hnew).trans (if_neg (Nat.not_le.mpr hroom))
    have hread : readAdmit o.bytes = some o :=
      readAdmit_bytes h2 (by omega) (fun x hx => by have := hplate x hx; omega) fun x hx => by have := hweight x hx; omega
    have hexec := exec_reading (i := .admitUnit tag o.bytes) rfl rfl ht hread hhandled
    have hunit (x : UnitState) : newUnit o s.tracker.admissionCounter x = unit x := by
      simp only [newUnit, hcls, unit]
    refine ⟨fun hg => ?_, fun hg => ?_⟩
    · have hsome : c.circuitGas.isSome = true := Option.isSome_iff_ne_none.mpr hg
      rw [hexec, hsome, createUnit_circuit, ← hunit]
      rfl
    · intro created decided
      rw [hexec, hg, Option.isSome_none, createUnit_foam]
      simp only [decided, created, ← hunit]
      rfl
  · intro outside answer
    have hread : readAdmit o.bytes = some o := readAdmit_bytes h1 h2 hplate hweight
    have answered {st : Status} (h : handleAdmit o s.takeFromQueue = s.takeFromQueue.refuse st) : answer st :=
      exec_reading (i := .admitUnit tag o.bytes) rfl rfl ht hread h
    have houtside : Outside s.takeFromQueue o ↔ outside := Iff.rfl
    refine ⟨fun hm => answered (handleAdmit_wrongMode hm), fun hm ho => ?_, fun hm ho hd => ?_, fun hm ho hd hfull => ?_⟩
    · cases hc : s.takeFromQueue.classEntry o.cls with
      | none => exact answered (handleAdmit_undefined hm hc)
      | some c => exact answered (handleAdmit_outOfRange hm hc (not_inRange_of_outside (houtside.mpr ho) hc))
    · obtain ⟨c, hc, hr⟩ := inRange_of_not_outside (mt houtside.mp ho)
      exact answered (handleAdmit_duplicate hm hc hr hd)
    · obtain ⟨c, hc, hr⟩ := inRange_of_not_outside (mt houtside.mp ho)
      exact answered ((handleAdmit_new (s := s.takeFromQueue) hm hc hr hd).trans (if_pos hfull))

/-! ### WITHDRAW_UNIT and TAKE_CLOSED (1.6) -/

section withdrawal
variable {s : State} {n : Nat} {u : UnitRecord}

theorem readUnitTag_bytes (h : n < 2 ^ 32) : readUnitTag (leBytes 4 n) = some n := by
  have hn : n % 256 ^ 4 = n := Nat.mod_eq_of_lt h
  rw [readUnitTag, ofLength_eq (by simp), field_last, hn]

theorem handleWithdraw_notFound (h : ∀ u ∈ s.tracker.units, u.tag ≠ n) : handleWithdraw n s = s.refuse .notFound := by
  have hnone : s.findUnit n = none := List.find?_eq_none.mpr fun u hu => by simpa using h u hu
  unfold handleWithdraw
  rw [hnone]

theorem handleWithdraw_held (h : s.findUnit n = some u) : handleWithdraw n s =
    match u.state with
    | .admitted =>
      ((s.setTracker { s.tracker with degasQueue := s.tracker.degasQueue.erase n }).freeUnit n, .bare .done)
    | .assigned => (((s.releaseStation u).freeUnit n).arbiterPass.noteStations s.stations, .bare .done)
    | .shredQueued => ((s.freeUnit n).leaveShredQueue n, .bare .done)
    | _ => s.refuse .wrongState := by
  unfold handleWithdraw
  rw [h] <;> rfl

end withdrawal

/-- Settles O29: WITHDRAW_UNIT by the unit's state, and TAKE_CLOSED. -/
theorem withdrawAndTakeFreeRecords : Obligations.WithdrawAndTakeFreeRecords := by
  refine ⟨fun tag n s hn ht => ?_, fun tag s ht => ?_⟩
  · intro left answer
    have answered {t : State} {st : Status} (h : handleWithdraw n s.takeFromQueue = (t, .bare st)) : answer t st :=
      exec_reading (i := .withdrawUnit tag (leBytes 4 n)) rfl rfl ht (readUnitTag_bytes hn) h
    refine ⟨fun hno => answered (handleWithdraw_notFound hno), fun u hu => ?_⟩
    have hhandled := handleWithdraw_held (s := s.takeFromQueue) hu
    refine ⟨fun h => ?_, fun i h hi => ?_, fun h => ?_, fun h => ?_⟩
    · rw [h] at hhandled
      exact answered hhandled
    · rw [h] at hhandled
      unfold State.releaseStation at hhandled
      rw [hi] at hhandled
      exact answered hhandled
    · rw [h] at hhandled
      exact answered hhandled
    · simp only [List.mem_cons, List.not_mem_nil, or_false] at h
      refine answered (hhandled.trans ?_)
      obtain h | h | h | h := h <;> rw [h] <;> rfl
  · intro tags records
    exact exec_reading (i := .takeClosed tag []) (a := ()) (reply := ⟨.done, _⟩) rfl rfl ht rfl rfl

end Sys2Proof.Proofs.Admission

/-! # A published scan at a station (2.3 to 2.9, 2.12, 3.2) -/

namespace Sys2Proof.Proofs.Visiting
open Sys2Proof Sys2Proof.Machine Sys2Proof.Proofs.Frames Sys2Proof.Proofs.Steps Sys2Proof.Proofs.Stations
open Sys2Proof.Proofs.Scanning Sys2Proof.Proofs.Receivers
open Sys2Proof.Proofs.Soundness (station_of_same)
open Sys2Proof.Proofs.Tripping (clampTo_eq usable_true_iff)

set_option Elab.async false

/-! ### The presence at a scan (2.3) -/

section presence
variable {s : State} {i : StationNo} {x : Scan} {st : Station}

/-- R32: the presence that a station has seen once it takes a scan. -/
def seenAt (i : StationNo) (x : Scan) (st : Station) : Option Bool :=
  if (x.role (roleStationPresence i)).condition = .valid ∨ (x.role (roleStationPresence i)).condition = .held then
    some (decide ((x.role (roleStationPresence i)).value ≠ 0))
  else st.lastSeen

theorem presenceAt_eq : presenceAt i x =
    if (x.role (roleStationPresence i)).condition = .valid ∨ (x.role (roleStationPresence i)).condition = .held then
      some (decide ((x.role (roleStationPresence i)).value ≠ 0))
    else none :=
  ite_congr (propext usable_true_iff) (fun _ => rfl) fun _ => rfl

theorem seePresence_eq : st.seePresence i x = { st with lastSeen := seenAt i x st } := by
  unfold Station.seePresence seenAt
  rw [presenceAt_eq]
  by_cases h : (x.role (roleStationPresence i)).condition = .valid ∨ (x.role (roleStationPresence i)).condition = .held
  · rw [if_pos h, if_pos h]
  · rw [if_neg h, if_neg h]

theorem presenceChange_unchanged (h : st.lastSeen = none ∨ seenAt i x st = st.lastSeen) :
    st.presenceChange i x = .unchanged := by
  unfold Station.presenceChange
  rw [presenceAt_eq]
  unfold seenAt at h
  by_cases hc : (x.role (roleStationPresence i)).condition = .valid ∨ (x.role (roleStationPresence i)).condition = .held
  · rw [if_pos hc] at h ⊢
    obtain h | h := h
    · rw [h]
    · rw [← h]
      cases decide ((x.role (roleStationPresence i)).value ≠ 0) <;> rfl
  · rw [if_neg hc]
    cases st.lastSeen with
    | none => rfl
    | some b => cases b <;> rfl

/-- R49. -/
theorem signalLostAt_iff : signalLostAt i x = true
    ↔ ∃ r ∈ [roleStationFlow i, roleStationPressure i, roleStationPresence i], (x.role r).condition = .lost := by
  simp [signalLostAt, or_assoc]

/-- R37, R39: a scan without a change of presence. -/
theorem stationScan_unchanged (h : (s.station i).lastSeen = none ∨ seenAt i x (s.station i) = (s.station i).lastSeen) :
    s.stationScan i x = ((s.setStation i { s.station i with lastSeen := seenAt i x (s.station i) }).runCycle i x).noteStations
      s.stations := by
  unfold State.stationScan
  rw [presenceChange_unchanged h, seePresence_eq]

end presence

/-! ### A scan in EVACUATING (2.5, 2.12, 3.2) -/

section evacuation
variable {s : State} {i : StationNo} {x : Scan} {st : Station}

theorem pushTrace_eq (e : TraceEntry) {l : List TraceEntry} (h : l.length ≤ 32) :
    pushTrace e l = (l ++ [e]).drop (l.length - 31) := by
  unfold pushTrace
  have hsize : Config.traceRingSize = 32 := rfl
  rw [hsize]
  split
  · rw [show l.length - 31 = 0 by omega, List.drop_zero]
  · rw [show l.length - 31 = 1 by omega, List.drop_append_of_le_length (by omega)]

theorem flowAt_eq (deadBand : Nat) : flowAt i deadBand x =
    let flow := limited 20000 (x.role (roleStationFlow i)).value
    if flow < deadBand then 0 else flow := by
  unfold flowAt
  rw [clampTo_eq]
  rfl

theorem sampleTrace_eq (interval now flow : Nat) : st.sampleTrace interval now flow = { st with
    traceCount := if interval ≤ st.traceCount + 1 then 0 else st.traceCount + 1
    trace := if interval ≤ st.traceCount + 1 then pushTrace ⟨cycleTenths st.cycleStart now, st.latestPressure, flow⟩ st.trace
      else st.trace } := by
  unfold Station.sampleTrace
  by_cases h : interval ≤ st.traceCount + 1
  · simp only [if_pos h]
  · simp only [if_neg h]

theorem testVacuum_eq (target : Nat) : st.testVacuum target = { st with
    state := if st.latestPressure ≤ (target : Int) then .holding else st.state
    holdStart := if st.latestPressure ≤ (target : Int) then st.latestPressure else st.holdStart
    phaseTimer := if st.latestPressure ≤ (target : Int) then 0 else st.phaseTimer } := by
  unfold Station.testVacuum
  by_cases h : st.latestPressure ≤ (target : Int)
  · simp only [if_pos h]
  · simp only [if_neg h]

/-- R37: what a station that is EVACUATING is after a scan with these values. -/
def evacuated (timing : StationTiming) (now flow elapsed : Nat) (pressure : Int) (st : Station) : Station :=
  (({ st with accumulator := addTo64 st.accumulator (stationIncrement flow elapsed), latestPressure := pressure } : Station).sampleTrace
    timing.traceInterval now flow).testVacuum timing.vacuumTarget

theorem evacuated_eq (timing : StationTiming) (now flow elapsed : Nat) (pressure : Int) (hs : st.state = .evacuating)
    (hl : st.trace.length ≤ 32) :
    let due := timing.traceInterval ≤ st.traceCount + 1
    let entry : TraceEntry := ⟨min ((now - st.cycleStart) / 1000) 65535, pressure, flow⟩
    let reached := pressure ≤ (timing.vacuumTarget : Int)
    evacuated timing now flow elapsed pressure st = { st with
      accumulator := min (st.accumulator + flow * elapsed * 100) 18446744073709551615
      latestPressure := pressure
      traceCount := if due then 0 else st.traceCount + 1
      trace := if due then (st.trace ++ [entry]).drop (st.trace.length - 31) else st.trace
      state := if reached then .holding else .evacuating
      holdStart := if reached then pressure else st.holdStart
      phaseTimer := if reached then 0 else st.phaseTimer } := by
  intro due entry reached
  have hpush : pushTrace entry st.trace = (st.trace ++ [entry]).drop (st.trace.length - 31) := pushTrace_eq entry hl
  rw [← hpush]
  rw [evacuated, sampleTrace_eq, testVacuum_eq, ← hs]
  rfl

theorem evacuate_eq : s.evacuate i x =
    (s.setStation i (evacuated s.timing s.now (flowAt i s.deadBand x) x.elapsed (pressureAt i x) (s.station i))).deliver
      (evacuated s.timing s.now (flowAt i s.deadBand x) x.elapsed (pressureAt i x) (s.station i)).family
      (stationIncrement (flowAt i s.deadBand x) x.elapsed) := rfl

end evacuation

/-! ### A scan without a change of presence -/

section cycle
variable {s : State} {i : StationNo} {x : Scan}

theorem runCycle_evacuating (h : (s.station i).state = .evacuating) (hl : signalLostAt i x = false) :
    s.runCycle i x = s.evacuate i x := by
  unfold State.runCycle
  dsimp only
  rw [h]
  exact if_neg (by rw [hl]; exact Bool.false_ne_true)

theorem runCycle_watching (h : (s.station i).state ∈ [StationState.piercing, .suspended, .holding])
    (hl : signalLostAt i x = false) :
    s.runCycle i x = s.setStation i { s.station i with latestPressure := pressureAt i x } := by
  unfold State.runCycle
  dsimp only
  simp only [List.mem_cons, List.not_mem_nil, or_false] at h
  obtain h | h | h := h
  all_goals
    rw [h]
    exact if_neg (by rw [hl]; exact Bool.false_ne_true)

theorem runCycle_lost (h : (s.station i).state ∈ [StationState.piercing, .evacuating, .suspended, .holding])
    (hl : signalLostAt i x = true) : s.runCycle i x = s.loseSignal i := by
  unfold State.runCycle
  dsimp only
  simp only [List.mem_cons, List.not_mem_nil, or_false] at h
  obtain h | h | h | h := h
  all_goals
    rw [h]
    exact if_pos hl

theorem runCycle_other (h : (s.station i).state ∈ [StationState.idle, .assigned, .releasing, .unloading, .faulted, .locked]) :
    s.runCycle i x = s := by
  unfold State.runCycle
  dsimp only
  simp only [List.mem_cons, List.not_mem_nil, or_false] at h
  obtain h | h | h | h | h | h := h
  all_goals rw [h]

theorem orElse_getD {α : Type} (o : Option α) (a : α) : (o.orElse fun _ => some a) = some (o.getD a) := by cases o <;> rfl

/-- R49: the cycle ends by a LOST signal. -/
theorem loseSignal_eq : s.loseSignal i = (s.reportFrom (s.station i).unit .stationSignalLost).setStation i { s.station i with
    state := .releasing, causes := .empty, phaseTimer := 0, latch := some ((s.station i).latch.getD .signalLost) } := by
  unfold State.loseSignal
  dsimp only
  rw [reportFrom_station, orElse_getD]
  rfl

theorem reportFrom_setStation (u : Option Nat) (a : Anomaly) (st : Station) :
    (s.setStation i st).reportFrom u a = (s.reportFrom u a).setStation i st := by cases u <;> rfl

end cycle

/-- Settles O38: a scan that carries no change of presence, by the station's state. -/
theorem stationScanIntegratesOrEnds : Obligations.StationScanIntegratesOrEnds := by
  intro i x s hx presence seen pressure lost hsame
  have hexec := exec_taken (i := .stationScan i) rfl hx
  obtain ⟨w, hw⟩ : ∃ w, w = s.taking (.station i) := ⟨_, rfl⟩
  have hstations : w.stations = s.stations := by rw [hw]; rfl
  have hstation (j : StationNo) : w.station j = s.station j := station_of_same hstations j
  have hview : w.stations[i].view = (s.station i).view := congrArg Station.view (hstation i)
  have hseen : seenAt i x (s.station i) = seen := rfl
  have hlost : signalLostAt i x = true ↔ lost := signalLostAt_iff
  rw [← hw] at hexec ⊢
  rw [stationScan_unchanged (by rw [hstation]; exact hsame), hstation, hseen] at hexec
  obtain ⟨v, hv⟩ : ∃ v, v = w.setStation i { s.station i with lastSeen := seen } := ⟨_, rfl⟩
  have hvst : v.station i = { s.station i with lastSeen := seen } := by rw [hv, State.setStation_station_self]
  rw [← hv] at hexec
  refine ⟨fun f c stands hstands hs hf hc hno hlength => ?_, fun hs hno => ?_, fun hs hl => ?_, fun hs => ?_⟩
  · intro limitedFlow flow due entry reached
    have hlost' : signalLostAt i x = false := Bool.eq_false_iff.mpr (mt hlost.mp hno)
    obtain ⟨e, he⟩ : ∃ e, e = evacuated s.timing s.now flow x.elapsed pressure { s.station i with lastSeen := seen } := ⟨_, rfl⟩
    have heq := he.trans (evacuated_eq (st := { s.station i with lastSeen := seen }) s.timing s.now flow x.elapsed pressure hs hlength)
    have hfamily : e.family = some f := by rw [heq]; exact hf
    have hflow : flowAt i w.deadBand x = flow := by rw [hw]; exact flowAt_eq _
    have hevacuate : v.evacuate i x = (w.setStation i e).setReceiver f { s.receiver f with
        standing := stands { c with delivered := min (c.delivered + flow * x.elapsed * 100) 18446744073709551615 } } := by
      have hve : evacuated v.timing v.now (flowAt i v.deadBand x) x.elapsed (pressureAt i x) (v.station i) = e := by
        rw [he, hvst, show v.deadBand = w.deadBand by rw [hv]; rfl, hflow, hv, hw]
        rfl
      have hreceiver : ((w.setStation i e).receiver f) = s.receiver f := by rw [hw]; cases f <;> rfl
      rw [evacuate_eq, hve, hfamily, show v.deadBand = w.deadBand by rw [hv]; rfl, hflow, hv, setStation_setStation, State.deliver,
        hreceiver, hc]
      obtain h | h := hstands <;> rw [h] <;> rfl
    rw [runCycle_evacuating (by rw [hvst]; exact hs) hlost', hevacuate] at hexec
    obtain ⟨u, hu⟩ : ∃ u, u = (w.setStation i e).setReceiver f { s.receiver f with
        standing := stands { c with delivered := min (c.delivered + flow * x.elapsed * 100) 18446744073709551615 } } := ⟨_, rfl⟩
    rw [← hu] at hexec
    have hdu : Differs [.stations, .receivers] w u := by rw [hu]; exact (setStation_differs.seq setReceiver_differs).within
    have hdn : Differs [.notices] u (u.noteStations w.stations) := noteStations_differs
    have hd := (hdu.seq hdn).within (k' := [.stations, .receivers, .notices])
    generalize u.noteStations w.stations = t at hexec hdn hd
    have hti : t.station i = e := by
      rw [hdn.station i, hu, State.setReceiver_station, State.setStation_station_self]
    have hstate : (t.station i).state = if reached then .holding else .evacuating := by rw [hti, heq]
    refine ⟨t.settle, hexec, ?_, fun j hj => ?_, ?_, fun g hg => ?_, ?_, ?_, ?_, ?_, ?_, ?_, ?_⟩
    · rw [State.settle_station, hti]
      exact heq
    · rw [State.settle_station, hdn.station j, hu, State.setReceiver_station, State.setStation_station_ne (h := Ne.symm hj), hstation]
    · rw [State.settle_receiver, hdn.receiver, hu, State.setReceiver_receiver_self]
    · rw [State.settle_receiver, hdn.receiver, hu, State.setReceiver_receiver, if_neg (Ne.symm hg), hw]
      cases g <;> rfl
    · rw [State.settle_toTake, hd.toTake, hw]; rfl
    · rw [State.settle_link, Link.arbitrate_mode, hd.mode, hw]; rfl
    · rw [State.settle_link, Link.arbitrate_requests, hd.requests, hw]; rfl
    · rw [State.settle_link, Link.arbitrate_enables, hd.enables, hw]; rfl
    · rw [State.settle_pins, State.driven, getElem_ofFn, hstate]
      by_cases hr : reached
      · rw [if_pos hr, decide_eq_true hr]; rfl
      · rw [if_neg hr, decide_eq_false hr]; rfl
    · rw [State.settle_pins, State.driven, getElem_ofFn, hstate]
      by_cases hr : reached
      · rw [if_pos hr]; rfl
      · rw [if_neg hr]; rfl
    · rw [settle_eq_with hd.within, hd.tracker, hd.chamber, hd.shift, hd.protection, hw]
      rfl
  · rw [hexec, runCycle_watching (by rw [hvst]; exact hs) (Bool.eq_false_iff.mpr (mt hlost.mp hno)), hvst, hv, setStation_setStation,
      noteStations_set_same (i := i) (x := { s.station i with lastSeen := seen, latestPressure := pressure }) rfl]
    · rfl
    · exact hview.symm
  · rw [hexec, runCycle_lost (by rw [hvst]; exact hs) (hlost.mpr hl), loseSignal_eq, hvst, hv, reportFrom_setStation,
      setStation_setStation, noteStations_set (i := i) (x := { s.station i with
        lastSeen := seen, state := .releasing, causes := .empty, phaseTimer := 0
        latch := some ((s.station i).latch.getD .signalLost) })]
    · exact congrArg (fun l => Vector.set l i _) reportFrom_differs.stations
    · rw [hview]
      refine view_ne_of_state (s := s) (i := i) fun e => ?_
      rw [← e] at hs
      simp at hs
  · rw [hexec, runCycle_other (by rw [hvst]; exact hs), hv, noteStations_set_same (i := i) (x := { s.station i with lastSeen := seen }) rfl]
    exact hview.symm

end Sys2Proof.Proofs.Visiting

/-! # A change of presence at a station (1.2, 2.3, 2.7, 2.9) -/

namespace Sys2Proof.Proofs.Presence
open Sys2Proof Sys2Proof.Machine Sys2Proof.Proofs.Frames Sys2Proof.Proofs.Steps Sys2Proof.Proofs.Stations
open Sys2Proof.Proofs.Scanning Sys2Proof.Proofs.Receivers Sys2Proof.Proofs.Arbiter Sys2Proof.Proofs.Visiting
open Sys2Proof.Proofs.Probing (raise_link_congr)
open Sys2Proof.Proofs.Soundness (station_of_same findUnit_tag)
open Sys2Proof.Proofs.Tripping (usable_true_iff)

set_option Elab.async false

/-! ### The chamber does not see the stations -/

section commuting
variable {s t : State} {i : StationNo} {y : Station}

theorem raise_setStation {n : Notice} (h : t = s.setStation i y) : t.raise n = (s.raise n).setStation i y := by
  rw [raise_eq_setLink, raise_link_congr (show t.link = s.link by rw [h]; rfl), h, raise_eq_setLink (s := s)]
  rfl

theorem applySettings_setStation : (s.setStation i y).applySettings = s.applySettings.setStation i y := by
  have hchamber : (s.setStation i y).chamber = s.chamber := rfl
  unfold State.applySettings
  dsimp only
  rw [hchamber]
  split
  · exact raise_setStation rfl
  · rfl

theorem boundary_setStation : (s.setStation i y).boundary = s.boundary.setStation i y := by
  unfold State.boundary
  rw [applySettings_setStation]
  exact raise_setStation rfl

theorem mismatchReport_setStation {n : Nat} : (s.setStation i y).mismatchReport n = (s.mismatchReport n).setStation i y := by
  have hfind : (s.setStation i y).findUnit n = s.findUnit n := rfl
  unfold State.mismatchReport
  rw [hfind]
  cases s.findUnit n with
  | none => rfl
  | some u =>
    dsimp only
    have hentry : (s.setStation i y).classEntry u.cls = s.classEntry u.cls := rfl
    rw [hentry]
    split
    · rw [if_pos ‹_›]
    · rw [if_neg ‹_›]
      cases (s.classEntry u.cls).bind (·.foamGas) with
      | none => rfl
      | some g => exact raise_setStation rfl

theorem waitingDecision_setStation : (s.setStation i y).waitingDecision = s.waitingDecision.setStation i y := by
  have hchamber : (s.setStation i y).chamber = s.chamber := rfl
  have htracker : (s.setStation i y).tracker = s.tracker := rfl
  have hloadable : (s.setStation i y).loadable = s.loadable := rfl
  unfold State.waitingDecision
  rw [hchamber, htracker, hloadable, boundary_setStation]
  cases s.chamber.standing with
  | waiting =>
    dsimp only
    split
    · rfl
    · cases s.tracker.shredQueue with
      | nil => rfl
      | cons n rest =>
        dsimp only
        split
        · rfl
        · exact mismatchReport_setStation
  | _ => rfl

theorem joinShredQueue_setStation {n : Nat} : (s.setStation i y).joinShredQueue n = (s.joinShredQueue n).setStation i y := by
  have htracker : (s.setStation i y).tracker = s.tracker := rfl
  have hset (x : Tracker) : (s.setStation i y).setTracker x = (s.setTracker x).setStation i y := rfl
  unfold State.joinShredQueue
  dsimp only
  rw [htracker, hset]
  split
  · exact waitingDecision_setStation
  · rfl

theorem modifyUnit_setStation {n : Nat} {f : UnitRecord → UnitRecord} :
    (s.setStation i y).modifyUnit n f = (s.modifyUnit n f).setStation i y := rfl

end commuting

/-! ### A unit that leaves its station (1.2) -/

section leaving
variable {s : State} {i : StationNo} {y : Station} {n : Nat} {u : UnitRecord} {change : UnitRecord → UnitRecord}

/-- R10, R11: a unit's record goes to SHRED_QUEUED with no station, and its tag to the tail of the Shred Queue; the new head of
an empty queue makes the waiting decision. -/
def left (n : Nat) (change : UnitRecord → UnitRecord) (s : State) : State :=
  let t : State :=
    { s with
      tracker := { s.tracker with
        shredQueue := s.tracker.shredQueue ++ [n]
        units := s.tracker.units.map fun u =>
          if u.tag = n then { change u with state := .shredQueued, station := none } else u } }
  if s.tracker.shredQueue = [] then t.waitingDecision else t

theorem left_setStation : left n change (s.setStation i y) = (left n change s).setStation i y := by
  have htracker : (s.setStation i y).tracker = s.tracker := rfl
  have hset (x : Tracker) : ({ s.setStation i y with tracker := x } : State) = ({ s with tracker := x } : State).setStation i y := rfl
  unfold left
  dsimp only
  rw [htracker, hset]
  split
  · exact waitingDecision_setStation
  · rfl

theorem left_differs : Differs [.tracker, .chamber, .notices] s (left n change s) := by
  unfold left
  dsimp only
  split
  · exact (setTracker_differs.seq waitingDecision_differs).within
  · exact setTracker_differs.within

theorem joinShredQueue_modifyUnit : (s.modifyUnit n fun u => { change u with state := .shredQueued, station := none }).joinShredQueue n
    = left n change s := by
  unfold State.joinShredQueue left
  exact ite_congr (propext List.isEmpty_iff) (fun _ => rfl) fun _ => rfl

theorem unitRemoved_eq (hu : s.findUnit n = some u) (hs : u.state = .degassed) : s.unitRemoved n = left n id s := by
  unfold State.unitRemoved
  rw [hu]
  exact (if_pos hs).trans (joinShredQueue_modifyUnit (change := id))

theorem unitPulled_eq {d : DegasResult} (hu : s.findUnit n = some u) (hs : u.state = .degassing) :
    s.unitPulled n d = left n (fun u => { u with degas := some (u.degas.getD d) }) s := by
  rw [← joinShredQueue_modifyUnit]
  unfold State.unitPulled
  rw [hu]
  refine (if_pos hs).trans ?_
  simp only [orElse_getD]

/-- R6: a report changes neither the state of a record nor its degas result. -/
theorem findUnit_reportFrom (a : Anomaly) (hu : s.findUnit n = some u) (hs : u.state = .degassing) :
    ∃ v, (s.reportFrom (some n) a).findUnit n = some v ∧ v.state = .degassing := by
  have htag (v : UnitRecord) : (if v.tag = n then if v.state = .closed then v else v.report a else v).tag = v.tag := by
    repeat' split
    · rfl
    · rw [report_eq]
    · rfl
  have hn : u.tag = n := findUnit_tag hu
  have hfind := find_map_of_tag htag s.tracker.units n
  unfold State.findUnit at *
  rw [hu, Option.map_some, if_pos hn, if_neg (by rw [hs]; exact fun e => nomatch e)] at hfind
  refine ⟨u.report a, hfind, ?_⟩
  rw [report_eq]
  exact hs

/-- R48: a pull of the unit that a station holds. -/
theorem pull_eq (hunit : (s.station i).unit = some n) (hu : s.findUnit n = some u) (hs : u.state = .degassing) :
    s.pull i = (left n (fun u => { u with degas := some (u.degas.getD ((s.station i).result i s.now)) })
      (s.reportFrom (some n) .pulled)).setStation i { s.station i with
        state := .faulted, unit := none, family := none, causes := .empty, latch := some ((s.station i).latch.getD .pulled) } := by
  obtain ⟨v, hv, hvs⟩ := findUnit_reportFrom .pulled hu hs
  have hr : (s.reportFrom (some n) .pulled).station i = s.station i := reportFrom_station ..
  have hnow : (s.reportFrom (some n) .pulled).now = s.now := reportFrom_differs.now
  unfold State.pull
  dsimp only
  rw [hunit, hr, hunit, hnow]
  dsimp only
  rw [unitPulled_eq hv hvs, left_differs.station, hr, orElse_getD]

end leaving

/-! ### What a change of presence leaves of the stations -/

section stations
variable {s t u : State} {i j : StationNo} {x : Scan} {y : Station}

/-- The other stations stay, and this one has seen what it had seen. -/
def Beside (i : StationNo) (s t : State) : Prop :=
  (∀ j, j ≠ i → t.station j = s.station j) ∧ (t.station i).lastSeen = (s.station i).lastSeen

theorem Beside.refl (s : State) : Beside i s s := ⟨fun _ _ => rfl, rfl⟩

theorem Beside.trans (h : Beside i s t) (h' : Beside i t u) : Beside i s u :=
  ⟨fun j hj => (h'.1 j hj).trans (h.1 j hj), h'.2.trans h.2⟩

theorem Beside.of_differs {k : List Block} (d : Differs k s t) (h : .stations ∉ k := by decide) : Beside i s t :=
  ⟨fun j _ => d.station j h, congrArg _ (d.station i h)⟩

theorem Beside.setStation (h : y.lastSeen = (s.station i).lastSeen) : Beside i s (s.setStation i y) :=
  ⟨fun j hj => State.setStation_station_ne _ _ _ _ (Ne.symm hj), by rw [State.setStation_station_self, h]⟩

theorem loseSignal_beside : Beside i s (s.loseSignal i) := by
  rw [loseSignal_eq]
  exact (Beside.of_differs reportFrom_differs).trans (.setStation (by rw [reportFrom_station]))

theorem evacuated_lastSeen {timing : StationTiming} {now flow elapsed : Nat} {pressure : Int} :
    (evacuated timing now flow elapsed pressure y).lastSeen = y.lastSeen := by
  rw [evacuated, testVacuum_eq, sampleTrace_eq]

theorem evacuate_beside : Beside i s (s.evacuate i x) := by
  rw [evacuate_eq]
  exact (Beside.setStation evacuated_lastSeen).trans (.of_differs deliver_differs)

theorem runCycle_beside : Beside i s (s.runCycle i x) := by
  unfold State.runCycle
  dsimp only
  repeat' split
  · exact loseSignal_beside
  · exact .setStation rfl
  · exact loseSignal_beside
  · exact .setStation rfl
  · exact loseSignal_beside
  · exact .setStation rfl
  · exact loseSignal_beside
  · exact evacuate_beside
  · exact .refl s

theorem presenceRise_beside : Beside i s (s.presenceRise i x) := by
  unfold State.presenceRise
  split
  · unfold State.arrive
    extract_lets v w
    have hv : Beside i s v := .setStation rfl
    have hw : Beside i s w := hv.trans (.of_differs (.ofUnit fun _ => reportCycleStart_differs))
    split
    · exact hw.trans loseSignal_beside
    · exact hw
  · exact .of_differs raise_differs
  · exact .of_differs raise_differs
  · exact .of_differs raise_differs
  · exact runCycle_beside

/-- R48: what a pull leaves of the station. -/
theorem pull_station : (s.pull i).station i = { s.station i with
    state := .faulted, unit := none, family := none, causes := .empty, latch := some ((s.station i).latch.getD .pulled) } := by
  unfold State.pull
  extract_lets r q st
  have hr : r.station i = s.station i := reportFrom_station ..
  have hq : st = s.station i := (Differs.ofUnit (k := [.tracker, .chamber, .notices]) fun _ => unitPulled_differs).station i |>.trans hr
  rw [State.setStation_station_self, hq, orElse_getD]

theorem pull_beside : Beside i s (s.pull i) := by
  unfold State.pull
  extract_lets r q st
  have hq : Beside i s q := (Beside.of_differs reportFrom_differs).trans (.of_differs (k := [.tracker, .chamber, .notices])
    (.ofUnit fun _ => unitPulled_differs))
  exact hq.trans (.setStation rfl)

theorem fallInCycle_beside : Beside i s (s.fallInCycle i x) := by
  unfold State.fallInCycle
  split
  · exact loseSignal_beside.trans pull_beside
  · exact pull_beside

/-! ### The removal (R41) -/

/-- R22: what the arbiter's pass leaves of a station. -/
theorem arbiterPass_kept : s.arbiterPass.station j = s.station j ∨ s.link.mode = .running
    ∧ (s.arbiterPass.station j).state = .assigned ∧ (s.arbiterPass.station j).unit ≠ none := by
  have hk (k : Nat) : (s.assignUpTo k).station j = s.station j
      ∨ ((s.assignUpTo k).station j).state = .assigned ∧ ((s.assignUpTo k).station j).unit ≠ none := by
    induction k generalizing s with
    | zero => exact .inl rfl
    | succ k ih =>
      unfold State.assignUpTo
      split
      · exact .inl rfl
      · rename_i n m hnext
        by_cases hm : m = j
        · have hassigned := assign_station (s := s) (n := n) (i := m) (j := j)
          rw [if_pos hm] at hassigned
          rw [assignUpTo_station (by rw [hassigned]; exact fun e => nomatch e), hassigned]
          exact .inr ⟨rfl, Option.some_ne_none n⟩
        · have hstay : (s.assign n m).station j = s.station j := by rw [assign_station, if_neg hm]
          rw [← hstay]
          exact ih
  unfold State.arbiterPass
  split
  · exact (hk 4).imp_right fun h => ⟨‹_›, h⟩
  · exact .inl rfl

theorem assignUpTo_lastSeen {k : Nat} : ((s.assignUpTo k).station j).lastSeen = (s.station j).lastSeen := by
  induction k generalizing s with
  | zero => rfl
  | succ k ih =>
    unfold State.assignUpTo
    split
    · rfl
    · rw [ih, assign_station]
      split
      · rename_i h; rw [← h]
      · rfl

theorem arbiterPass_lastSeen : (s.arbiterPass.station j).lastSeen = (s.station j).lastSeen := by
  unfold State.arbiterPass
  split
  · exact assignUpTo_lastSeen
  · rfl

/-- R41: the station that its appliance leaves, before the arbiter's pass. -/
def vacated (i : StationNo) (s : State) : State :=
  (match (s.station i).unit with
    | none => s
    | some tag => s.unitRemoved tag).setStation i { s.station i with
      state := if (s.station i).latch.isNone then .idle else .faulted, unit := none, family := none }

theorem removeAppliance_eq :
    s.removeAppliance i = if (s.station i).latch.isNone then (vacated i s).arbiterPass else vacated i s := by
  unfold State.removeAppliance vacated
  extract_lets r st
  have hr : st = s.station i := (Differs.ofUnit (k := [.tracker, .chamber, .notices]) fun _ => unitRemoved_differs).station i
  rw [hr]
  split <;> rfl

theorem vacated_beside : Beside i s (vacated i s) :=
  (Beside.of_differs (k := [.tracker, .chamber, .notices]) (.ofUnit fun _ => unitRemoved_differs)).trans
    (.setStation (by rw [(Differs.ofUnit (k := [.tracker, .chamber, .notices]) fun _ => unitRemoved_differs).station i]))

theorem vacated_station : (vacated i s).station i = { s.station i with
    state := if (s.station i).latch.isNone then .idle else .faulted, unit := none, family := none } :=
  State.setStation_station_self ..

end stations

/-! ### The scan that carries the change -/

section changes
variable {s : State} {i : StationNo} {x : Scan} {b : Bool}

theorem presenceAt_of (hc : (x.role (roleStationPresence i)).condition ∈ [Condition.valid, .held])
    (hb : (x.role (roleStationPresence i)).value ≠ 0 ↔ b = true) : presenceAt i x = some b := by
  rw [presenceAt_eq, if_pos (by simpa using hc)]
  exact congrArg some (Bool.eq_iff_iff.mpr (decide_eq_true_iff.trans hb))

/-- R32: a scan with a change of presence to `b`. -/
theorem stationScan_changed (hp : presenceAt i x = some b) (hseen : (s.station i).lastSeen = some (!b)) :
    s.stationScan i x = (if b then (s.setStation i { s.station i with lastSeen := some b }).presenceRise i x
      else (s.setStation i { s.station i with lastSeen := some b }).presenceFall i x).noteStations s.stations := by
  have hsee : (s.station i).seePresence i x = { s.station i with lastSeen := some b } := by
    unfold Station.seePresence
    rw [hp]
  have hchange : (s.station i).presenceChange i x = if b then .rise else .fall := by
    unfold Station.presenceChange
    rw [hp, hseen]
    cases b <;> rfl
  unfold State.stationScan
  dsimp only
  rw [hchange, hsee]
  cases b <;> rfl

theorem presenceRise_assigned (h : (s.station i).state = .assigned) : s.presenceRise i x = s.arrive i x := by
  unfold State.presenceRise
  rw [h]

theorem presenceRise_stray (h : (s.station i).state ∈ [StationState.idle, .faulted, .locked]) :
    s.presenceRise i x = s.raise (.strayUnit i (s.station i).state) := by
  unfold State.presenceRise
  simp only [List.mem_cons, List.not_mem_nil, or_false] at h
  obtain h | h | h := h <;> rw [h]

theorem presenceFall_unloading (h : (s.station i).state = .unloading) : s.presenceFall i x = s.removeAppliance i := by
  unfold State.presenceFall
  rw [h]

theorem presenceFall_cycle (h : (s.station i).state ∈ [StationState.piercing, .evacuating, .suspended, .holding, .releasing]) :
    s.presenceFall i x = if (signalLostAt i x && Config.lossBeforePull x.moment) ∧ (s.station i).state ≠ .releasing
      then (s.loseSignal i).pull i else s.pull i := by
  unfold State.presenceFall State.fallInCycle
  simp only [List.mem_cons, List.not_mem_nil, or_false] at h
  obtain h | h | h | h | h := h
  all_goals
    rw [h]
    simp

theorem presenceFall_other (h : (s.station i).state ∈ [StationState.idle, .assigned, .faulted, .locked]) :
    s.presenceFall i x = s := by
  unfold State.presenceFall
  simp only [List.mem_cons, List.not_mem_nil, or_false] at h
  obtain h | h | h | h := h <;> rw [h]

/-! ### The arrival (R33) -/

/-- R8: the units once the cycle of the unit that a station holds has begun. -/
def started (unit : Option Nat) (l : List UnitRecord) : List UnitRecord :=
  l.map fun u => if some u.tag = unit ∧ u.state = .assigned then { u with state := .degassing } else u

/-- R33: the station and the unit table at an arrival, before a signal loss. -/
def arrived (i : StationNo) (x : Scan) (s : State) : State :=
  ({ s with tracker := { s.tracker with units := started (s.station i).unit s.tracker.units } } : State).setStation i
    ((s.station i).beginCycle s.now (pressureAt i x))

theorem started_none (l : List UnitRecord) : started none l = l := by
  unfold started
  simp

theorem started_some (n : Nat) (l : List UnitRecord) : started (some n) l
    = l.map fun u => if u.tag = n then if u.state = .assigned then { u with state := .degassing } else u else u := by
  refine List.map_congr_left fun u _ => ?_
  by_cases hn : u.tag = n
  · by_cases hs : u.state = .assigned
    · rw [if_pos ⟨congrArg some hn, hs⟩, if_pos hn, if_pos hs]
    · rw [if_neg fun h => hs h.2, if_pos hn, if_neg hs]
  · rw [if_neg fun h => hn (Option.some.inj h.1), if_neg hn]

theorem arrive_eq : s.arrive i x = if signalLostAt i x then (arrived i x s).loseSignal i else arrived i x s := by
  have hunit : ((s.station i).beginCycle s.now (pressureAt i x)).unit = (s.station i).unit := rfl
  unfold State.arrive arrived
  dsimp only
  rw [State.setStation_station_self, hunit]
  cases (s.station i).unit with
  | none => rw [started_none]
  | some n => rw [started_some]; rfl

theorem reportFrom_tracker {t : State} (u : Option Nat) (a : Anomaly) (h : s.tracker = t.tracker) :
    (s.reportFrom u a).tracker = (t.reportFrom u a).tracker := by
  cases u with
  | none => exact h
  | some n =>
    unfold State.reportFrom State.reportAnomaly State.modifyUnit
    rw [State.setTracker_tracker, State.setTracker_tracker, h]

/-! ### The pull (R48) -/

/-- R48: a pull, and the STATION_STATE that follows. -/
theorem pull_reports {st : Station} {n : Nat} {u : UnitRecord} {before : Vector Station 4} (hstations : s.stations = before)
    (hview : before[i].state ≠ .faulted) (hunit : st.unit = some n) (hu : s.findUnit n = some u) (hs : u.state = .degassing) :
    ((s.setStation i st).pull i).noteStations before
      = ((left n (fun u => { u with degas := some (u.degas.getD (st.result i s.now)) }) (s.reportFrom (some n) .pulled)).setStation i
        { st with
          state := .faulted, unit := none, family := none, causes := .empty
          latch := some (st.latch.getD .pulled) }).reports i := by
  have hself : (s.setStation i st).station i = st := State.setStation_station_self ..
  rw [pull_eq (s := s.setStation i st) (by rw [hself]; exact hunit) hu hs, hself, reportFrom_setStation, left_setStation,
    setStation_setStation, noteStations_set (i := i) (x := { st with
      state := .faulted, unit := none, family := none, causes := .empty, latch := some (st.latch.getD .pulled) })]
  · rfl
  · have hl : (left n (fun u => { u with degas := some (u.degas.getD (st.result i s.now)) }) (s.reportFrom (some n) .pulled)).stations
        = before := left_differs.stations.trans (reportFrom_differs.stations.trans hstations)
    exact congrArg (fun l => Vector.set l i _) hl
  · exact fun e => hview (congrArg Prod.fst e).symm

theorem runCycle_receivers (h : (s.station i).state ≠ .evacuating) : Differs [.tracker, .stations] s (s.runCycle i x) := by
  unfold State.runCycle
  dsimp only
  split
  · split
    · exact loseSignal_differs
    · exact setStation_differs.within
  · split
    · exact loseSignal_differs
    · exact setStation_differs.within
  · split
    · exact loseSignal_differs
    · exact setStation_differs.within
  · contradiction
  · exact .refl _ _

theorem presenceRise_receivers (h : (s.station i).state ≠ .evacuating) :
    Differs [.tracker, .stations, .notices] s (s.presenceRise i x) := by
  unfold State.presenceRise
  split
  · exact arrive_differs.within
  · exact raise_differs.within
  · exact raise_differs.within
  · exact raise_differs.within
  · exact (runCycle_receivers h).within

theorem vacated_mode : (vacated i s).link.mode = s.link.mode := by
  have hr : Differs [.tracker, .stations, .chamber, .notices] s (vacated i s) :=
    (Differs.seq (k := [.tracker, .chamber, .notices]) (.ofUnit fun _ => unitRemoved_differs) setStation_differs).within
  exact hr.mode

theorem presenceFall_lastSeen : ((s.presenceFall i x).station i).lastSeen = (s.station i).lastSeen := by
  unfold State.presenceFall
  split
  · rw [removeAppliance_eq]
    split
    · rw [arbiterPass_lastSeen]; exact vacated_beside.2
    · exact vacated_beside.2
  · exact fallInCycle_beside.2
  · exact fallInCycle_beside.2
  · exact fallInCycle_beside.2
  · exact fallInCycle_beside.2
  · exact pull_beside.2
  · rfl

/-- The other stations move at a removal only, by the pass that it makes in RUNNING. -/
theorem presenceFall_beside (h : s.link.mode ≠ .running ∨ (s.station i).state ≠ .unloading ∨ (s.station i).latch ≠ none) :
    Beside i s (s.presenceFall i x) := by
  unfold State.presenceFall
  split
  · rename_i hs
    rw [removeAppliance_eq]
    split
    · rename_i hl
      obtain h | h | h := h
      · have hsame : (vacated i s).arbiterPass = vacated i s := if_neg (by rw [vacated_mode]; exact h)
        rw [hsame]
        exact vacated_beside
      · exact absurd hs h
      · exact absurd (Option.isNone_iff_eq_none.mp hl) h
    · exact vacated_beside
  · exact fallInCycle_beside
  · exact fallInCycle_beside
  · exact fallInCycle_beside
  · exact fallInCycle_beside
  · exact pull_beside
  · exact .refl s

end changes

/-! ### The station's scan taken and the change seen -/

section seen
variable {s : State} {i : StationNo} {x : Scan} {b : Bool} {n : Nat} {u : UnitRecord}

/-- R32, R160: the station's scan is taken, and the presence in it seen. -/
def seen (i : StationNo) (b : Bool) (s : State) : State :=
  (s.taking (.station i)).setStation i { s.station i with lastSeen := some b }

/-- R32: the state after the change, before STATION_STATE. -/
def moved (i : StationNo) (x : Scan) (b : Bool) (s : State) : State :=
  if b then (seen i b s).presenceRise i x else (seen i b s).presenceFall i x

theorem taking_station (c : Consumer) (j : StationNo) : (s.taking c).station j = s.station j :=
  station_of_same (show (s.taking c).stations = s.stations from rfl) j

theorem seen_self : (seen i b s).station i = { s.station i with lastSeen := some b } := by
  rw [seen, State.setStation_station_self]

theorem seen_other {j : StationNo} (hj : j ≠ i) : (seen i b s).station j = s.station j := by
  rw [seen, State.setStation_station_ne _ _ _ _ (Ne.symm hj), taking_station]

theorem seen_now : (seen i b s).now = s.now := rfl

theorem seen_tracker : (seen i b s).tracker = s.tracker := rfl

theorem seen_mode : (seen i b s).link.mode = s.link.mode := rfl

theorem seen_findUnit : (seen i b s).findUnit n = s.tracker.units.find? fun u => u.tag = n := rfl

theorem seen_stations : (seen i b s).stations = s.stations.set i { s.station i with lastSeen := some b } := rfl

theorem moved_rise : moved i x true s = (seen i true s).presenceRise i x := rfl

theorem moved_fall : moved i x false s = (seen i false s).presenceFall i x := rfl

theorem taking_changed (hp : presenceAt i x = some b) (hseen : (s.station i).lastSeen = some (!b)) :
    (s.taking (.station i)).stationScan i x = (moved i x b s).noteStations s.stations := by
  rw [stationScan_changed hp (by rw [taking_station]; exact hseen), taking_station]
  rfl

theorem moved_lastSeen : ((moved i x b s).station i).lastSeen = some b := by
  cases b with
  | true => exact presenceRise_beside.2.trans (by rw [seen_self])
  | false => exact presenceFall_lastSeen.trans (by rw [seen_self])

/-- R22: the other stations move at a removal only, by the pass that it makes in RUNNING. -/
theorem moved_other {j : StationNo} (hj : j ≠ i)
    (h : s.link.mode ≠ .running ∨ (s.station i).state ≠ .unloading ∨ (s.station i).latch ≠ none) :
    (moved i x b s).station j = s.station j := by
  cases b with
  | true => exact (presenceRise_beside.1 j hj).trans (seen_other hj)
  | false => exact ((presenceFall_beside (by rw [seen_mode, seen_self]; exact h)).1 j hj).trans (seen_other hj)

theorem moved_receivers (h : b = false ∨ (s.station i).state ≠ .evacuating) :
    Differs [.tracker, .stations, .chamber, .notices] (seen i b s) (moved i x b s) := by
  cases b with
  | true => exact (presenceRise_receivers (by rw [seen_self]; exact h.resolve_left (fun e => Bool.false_ne_true e.symm))).within
  | false => exact presenceFall_differs

/-! ### The arrival (R33, R34) -/

/-- R33: what an arrival begins. -/
theorem arrived_seen : (arrived i x (seen i true s)).station i = { s.station i with
      lastSeen := some true, state := .piercing, cycleStart := s.now, phaseTimer := 0, evacElapsed := 0, suspElapsed := 0
      reevacuations := 0, traceCount := 0, accumulator := 0, lastRise := none, trace := []
      latestPressure := (x.role (roleStationPressure i)).value }
    ∧ (arrived i x (seen i true s)).tracker
      = { s.tracker with units := started (s.station i).unit s.tracker.units } := by
  constructor
  · rw [arrived, State.setStation_station_self, seen_self, seen_now]
    rfl
  · rw [arrived, State.setStation_tracker, seen_self, seen_tracker]

theorem moved_arrived (hs : (s.station i).state = .assigned) : moved i x true s
    = if signalLostAt i x then (arrived i x (seen i true s)).loseSignal i else arrived i x (seen i true s) := by
  rw [moved_rise, presenceRise_assigned (by rw [seen_self]; exact hs), arrive_eq]

/-- R34: a stray unit is reported, and no more. -/
theorem moved_stray (hs : (s.station i).state ∈ [StationState.idle, .faulted, .locked]) :
    (moved i x true s).noteStations s.stations = (seen i true s).raise (.strayUnit i (s.station i).state) := by
  rw [moved_rise, presenceRise_stray (by rw [seen_self]; exact hs), seen_self,
    noteStations_set_same (i := i) (x := { s.station i with lastSeen := some true }) _ rfl]
  exact State.raise_stations ..

/-! ### The removal (R10, R41) -/

theorem moved_other_state (hs : (s.station i).state ∈ [StationState.idle, .assigned, .faulted, .locked]) :
    (moved i x false s).noteStations s.stations = seen i false s := by
  rw [moved_fall, presenceFall_other (by rw [seen_self]; exact hs),
    noteStations_set_same (i := i) (x := { s.station i with lastSeen := some false }) seen_stations rfl]

theorem moved_unloading (hs : (s.station i).state = .unloading) : moved i x false s
    = if (s.station i).latch = none then (vacated i (seen i false s)).arbiterPass else vacated i (seen i false s) := by
  rw [moved_fall, presenceFall_unloading (by rw [seen_self]; exact hs), removeAppliance_eq, seen_self]
  exact ite_congr (propext Option.isNone_iff_eq_none) (fun _ => rfl) fun _ => rfl

theorem vacated_seen : (vacated i (seen i false s)).station i = { s.station i with
    lastSeen := some false, unit := none, family := none, state := if (s.station i).latch = none then .idle else .faulted } := by
  rw [vacated_station, seen_self]
  by_cases hl : (s.station i).latch = none
  · have hnone : (s.station i).latch.isNone = true := Option.isNone_iff_eq_none.mpr hl
    simp only [if_pos hl, if_pos hnone]
  · have hsome : ¬ (s.station i).latch.isNone = true := mt Option.isNone_iff_eq_none.mp hl
    simp only [if_neg hl, if_neg hsome]

theorem vacated_left (hunit : (s.station i).unit = some n) (hu : (s.tracker.units.find? fun u => u.tag = n) = some u)
    (hd : u.state = .degassed) : vacated i (seen i false s) = (left n id (s.taking (.station i))).setStation i { s.station i with
      lastSeen := some false, unit := none, family := none, state := if (s.station i).latch = none then .idle else .faulted } := by
  rw [← vacated_seen, vacated_station]
  unfold vacated
  rw [seen_self]
  dsimp only
  rw [hunit]
  dsimp only
  rw [unitRemoved_eq (s := seen i false s) (u := u) hu hd, seen, left_setStation, setStation_setStation]

/-- R41: where a removal leaves a station without a latch: IDLE, or with the unit that the arbiter's pass assigns it. -/
theorem moved_idle (hs : (s.station i).state = .unloading) (hl : (s.station i).latch = none) :
    (moved i x false s).station i = { s.station i with lastSeen := some false, unit := none, family := none, state := .idle }
      ∨ s.link.mode = .running ∧ ((moved i x false s).station i).state = .assigned
        ∧ ((moved i x false s).station i).unit ≠ none := by
  rw [moved_unloading hs, if_pos hl]
  refine (arbiterPass_kept (s := vacated i (seen i false s)) (j := i)).imp (fun h => ?_) fun ⟨hrunning, h⟩ => ⟨?_, h⟩
  · rw [h, vacated_seen, if_pos hl]
  · rw [vacated_mode, seen_mode] at hrunning
    exact hrunning

/-! ### The pull (R48) -/

section pulls
variable (hs : (s.station i).state ∈ [StationState.piercing, .evacuating, .suspended, .holding, .releasing])
include hs

theorem not_faulted_of_cycle : (s.station i).state ≠ .faulted := by
  intro e
  rw [e] at hs
  simp at hs

/-- The model's choice (notes/assumptions/18.md): with another role LOST the loss may come before the pull. -/
theorem moved_pulled : moved i x false s
    = if (signalLostAt i x && Config.lossBeforePull x.moment) ∧ (s.station i).state ≠ .releasing
      then ((seen i false s).loseSignal i).pull i else (seen i false s).pull i := by
  rw [moved_fall, presenceFall_cycle (by rw [seen_self]; exact hs), seen_self]

theorem moved_pulled_faulted : ((moved i x false s).station i).state = .faulted := by
  rw [moved_pulled hs]
  split <;> rw [pull_station]

/-- R48: where a pull leaves the station. -/
theorem moved_pulled_station : ∃ (timer : Nat) (first : FaultLatch), (moved i x false s).station i = { s.station i with
      lastSeen := some false, state := .faulted, unit := none, family := none, causes := .empty, phaseTimer := timer
      latch := some ((s.station i).latch.getD first) }
    ∧ (signalLostAt i x = false ∨ (s.station i).state = .releasing → timer = (s.station i).phaseTimer ∧ first = .pulled) := by
  rw [moved_pulled hs]
  by_cases hloss : (signalLostAt i x && Config.lossBeforePull x.moment) = true ∧ (s.station i).state ≠ .releasing
  · refine ⟨0, .signalLost, ?_, fun h => ?_⟩
    · rw [if_pos hloss, pull_station, loseSignal_eq, State.setStation_station_self, seen_self]
      rfl
    · obtain h | h := h
      · rw [h] at hloss
        exact absurd hloss.1 Bool.false_ne_true
      · exact absurd h hloss.2
  · refine ⟨(s.station i).phaseTimer, .pulled, ?_, fun _ => ⟨rfl, rfl⟩⟩
    rw [if_neg hloss, pull_station, seen_self]

variable (hunit : (s.station i).unit = some n) (hu : (s.tracker.units.find? fun u => u.tag = n) = some u) (hd : u.state = .degassing)
include hunit hu hd

/-- R48: the unit's record, the queue and the station at a pull with no loss before it. -/
theorem pull_seen : ((seen i false s).pull i).noteStations s.stations
    = ((left n (fun u => { u with degas := some (u.degas.getD ((s.station i).result i s.now)) })
        ((s.taking (.station i)).reportFrom (some n) .pulled)).setStation i { s.station i with
          lastSeen := some false, state := .faulted, unit := none, family := none, causes := .empty
          latch := some ((s.station i).latch.getD .pulled) }).reports i := by
  rw [seen, pull_reports (s := s.taking (.station i)) (st := { s.station i with lastSeen := some false }) (before := s.stations) rfl
    (show s.stations[i].state ≠ _ from not_faulted_of_cycle hs) hunit hu hd]
  rfl

/-- R48, R49: and at one with the loss before it. -/
theorem pull_lost : (((seen i false s).loseSignal i).pull i).noteStations s.stations
    = ((left n (fun u => { u with degas := some (u.degas.getD ((s.station i).result i s.now)) })
        (((s.taking (.station i)).reportFrom (some n) .stationSignalLost).reportFrom (some n) .pulled)).setStation i
        { s.station i with
          lastSeen := some false, state := .faulted, unit := none, family := none, causes := .empty, phaseTimer := 0
          latch := some ((s.station i).latch.getD .signalLost) }).reports i := by
  obtain ⟨v, hv, hvs⟩ := findUnit_reportFrom (s := s.taking (.station i)) .stationSignalLost hu hd
  have hlost : (seen i false s).loseSignal i = ((s.taking (.station i)).reportFrom (some n) .stationSignalLost).setStation i
      { s.station i with
        lastSeen := some false, state := .releasing, causes := .empty, phaseTimer := 0
        latch := some ((s.station i).latch.getD .signalLost) } := by
    rw [loseSignal_eq, seen_self, seen, reportFrom_setStation, setStation_setStation]
    dsimp only
    rw [hunit]
  rw [hlost, pull_reports (s := (s.taking (.station i)).reportFrom (some n) .stationSignalLost) (st := { s.station i with
      lastSeen := some false, state := .releasing, causes := .empty, phaseTimer := 0
      latch := some ((s.station i).latch.getD .signalLost) }) (before := s.stations) reportFrom_differs.stations
    (show s.stations[i].state ≠ _ from not_faulted_of_cycle hs) hunit hv hvs, reportFrom_differs.now]
  rfl

end pulls
end seen

/-- Settles O39: a change of presence, by its direction and the station's state. -/
theorem presenceChangesMoveTheStation : Obligations.PresenceChangesMoveTheStation := by
  intro i x b s hx hc hb hlast start leave result gone
  have hscan := taking_changed (presenceAt_of hc hb) hlast
  have hexec := exec_taken (i := .stationScan i) rfl hx
  have hdiff : Differs [.tracker, .stations, .receivers, .chamber, .notices] (s.taking (.station i))
      ((s.taking (.station i)).stationScan i x) := stationScan_differs
  rw [hscan] at hexec hdiff
  have hnote : Differs [.notices] (moved i x b s) ((moved i x b s).noteStations s.stations) := noteStations_differs
  have hstation (j : StationNo) : ((moved i x b s).noteStations s.stations).settle.station j = (moved i x b s).station j :=
    (State.settle_station ..).trans (hnote.station j)
  have htracker : ((moved i x b s).noteStations s.stations).settle.tracker = (moved i x b s).tracker := hnote.tracker
  have cycle {l : List StationState} (h : (s.station i).state ∈ l)
      (hl : l ⊆ [.piercing, .evacuating, .suspended, .holding, .releasing] := by decide) := hl h
  refine ⟨_, hexec, ?_, fun n u hfall hunit hu => ⟨fun hs hd => ?_, fun hs hd hnl => ?_, fun hs hd hl => ?_⟩,
    fun hrise hs hl => ?_, fun hrise hs hl => ?_, fun hrise hs => ?_, fun hfall hs => ?_, fun hfall hs hl => ?_,
    fun hfall hs hl => ?_, fun hfall hs => ?_, fun hquiet j hj => ?_, ?_, ?_, ?_, ?_, fun hquiet => ?_, ?_⟩
  · rw [hstation]
    exact moved_lastSeen
  · intro removed
    subst hfall
    rw [moved_unloading hs, vacated_left hunit hu hd]
    by_cases hl : (s.station i).latch = none
    · rw [if_pos hl, if_pos hl, if_pos hl]
      rfl
    · rw [if_neg hl, if_neg hl, if_neg hl]
      rfl
  · intro pulled
    subst hfall
    have hnot : ¬ ((signalLostAt i x && Config.lossBeforePull x.moment) = true ∧ (s.station i).state ≠ .releasing) := by
      rintro ⟨hloss, hrel⟩
      rw [hnl.resolve_right hrel] at hloss
      exact Bool.false_ne_true hloss
    rw [moved_pulled hs, if_neg hnot, pull_seen hs hunit hu hd]
    rfl
  · have hrel : (s.station i).state ≠ .releasing := by intro e; rw [e] at hs; simp at hs
    subst hfall
    rw [moved_pulled (cycle hs), hl, Bool.true_and]
    refine ⟨Config.lossBeforePull x.moment, ?_⟩
    intro before pulled
    cases hfirst : Config.lossBeforePull x.moment with
    | true =>
      rw [if_pos ⟨rfl, hrel⟩, pull_lost (cycle hs) hunit hu hd]
      simp only [before, pulled, hfirst]
      rfl
    | false =>
      rw [if_neg fun h => Bool.false_ne_true h.1, pull_seen (cycle hs) hunit hu hd]
      simp only [before, pulled, hfirst]
      rfl
  · subst hrise
    rw [hstation, htracker, moved_arrived hs, hl, if_neg Bool.false_ne_true]
    exact arrived_seen
  · subst hrise
    rw [hstation, htracker, moved_arrived hs, hl, if_pos rfl, loseSignal_eq, arrived_seen.1, State.setStation_station_self]
    exact ⟨rfl, reportFrom_tracker (t := start s) _ _ arrived_seen.2⟩
  · subst hrise
    rw [moved_stray hs]
    rfl
  · subst hfall
    rw [moved_other_state hs]
    rfl
  · subst hfall
    rw [hstation, moved_unloading hs, if_neg hl, vacated_seen, if_neg hl]
  · subst hfall
    rw [hstation]
    exact moved_idle hs hl
  · subst hfall
    have hfaulted : (((moved i x false s).noteStations s.stations).station i).state = .faulted := by
      rw [hnote.station i]
      exact moved_pulled_faulted hs
    refine ⟨?_, ?_, ?_⟩
    · rw [State.settle_pins, State.driven, getElem_ofFn, hfaulted]; rfl
    · rw [State.settle_pins, State.driven, getElem_ofFn, hfaulted]; rfl
    · rw [hstation]
      exact moved_pulled_station hs
  · rw [hstation]
    exact moved_other hj hquiet
  · exact hdiff.shift
  · exact hdiff.protection
  · exact hdiff.scanner
  · exact hdiff.sample
  · have hall : Differs [.tracker, .stations, .chamber, .notices] (seen i b s) ((moved i x b s).noteStations s.stations) :=
      ((moved_receivers hquiet).seq hnote).within
    exact ⟨hall.receiverF, hall.receiverH⟩
  · rw [State.settle_link, Link.arbitrate_mode]
    exact hdiff.mode

end Sys2Proof.Proofs.Presence

/-! # The part with no command waiting, and the dated events (notes/assumptions/1.md, 2.md, 3.md) -/

namespace Sys2Proof.Proofs.Idling
open Sys2Proof Sys2Proof.Machine Sys2Proof.Proofs.Steps

set_option Elab.async false

/-! ### One tick -/

/-- R35, R38 to R40, R47: one tick at a station: the timer of its state goes on by one, if its state has a timed end. -/
theorem elapse_one (i : StationNo) (st : Station) :
    (st.elapse 1).timer = st.timer + (if (timedCommand i st.state).isEmpty then 0 else 1)
      ∧ (st.elapse 1).state = st.state ∧ (st.elapse 1).unit = st.unit := by
  unfold Station.elapse
  cases h : st.state <;> simp [Station.timer, timedCommand, h]

/-- R88, R92: one tick at a charge that runs. -/
theorem elapse_charging (c : Charge) : ∃ d, ChamberStanding.elapse 1 (.charging c) = .charging d ∧ d.phase = c.phase
    ∧ d.mass = c.mass ∧ d.waitElapsed = c.waitElapsed + (if c.phase = .inertWait ∨ c.phase = .ventWait then 1 else 0) := by
  obtain ⟨number, phase⟩ := c
  cases phase <;> exact ⟨_, rfl, rfl, rfl, rfl⟩

/-- R188: a frame that is being sent goes on. -/
theorem arbitrate_sending {l : Link} {x : Sending} (h : l.sending = some x) : l.arbitrate.sending = some x := by
  unfold Link.arbitrate
  rw [h]
  exact h

theorem tick_sending {l : Link} {x : Sending} (h : l.sending = some x) :
    (l.elapse 1).arbitrate.sending = some { x with elapsed := x.elapsed + 1 } :=
  arbitrate_sending (by rw [Link.elapse, h]; rfl)

/-! ### The part's own events -/

theorem idle_quiet {s : State} (h : s.readyEvents = []) : s.idle = (s.elapse 1).settle := by
  unfold State.idle
  rw [h]

/-- With own events ready, one of them comes next. -/
theorem idle_ready {s : State} (h : s.readyEvents ≠ []) :
    ∃ i ∈ s.readyEvents, ∃ n, s.idle = { s with pending := [i], choices := n } := by
  unfold State.idle
  split
  · contradiction
  · rename_i i hi
    exact ⟨i, by rw [hi]; exact List.mem_singleton_self i, s.choices, rfl⟩
  · rename_i i j rest hi
    have hpick : Config.pick s.choices % (rest.length + 2) < (i :: j :: rest).length := Nat.mod_lt _ (Nat.succ_pos _)
    rw [hi, List.getD_eq_getElem?_getD, List.getElem?_eq_getElem hpick]
    exact ⟨_, List.getElem_mem hpick, _, rfl⟩

/-! ### Dated events that are not due -/

section dated
variable {s : State} {act : State → State} {j : StationNo}

theorem atDate_early {n : Nat} (h : s.mayPass n = false) : s.atDate n act = s := by
  rw [State.atDate, if_neg (by rw [h]; exact Bool.false_ne_true)]

theorem stationMissing_timed (h : (s.station j).state.timed = true) :
    s.stationMissing j = some (s.stationDue (s.station j).state - (s.station j).timer) := if_pos h

theorem timedEnd_early {x : StationState} (hx : x.timed = true)
    (h : ∀ n, (if (s.station j).state = x then s.stationMissing j else none) = some n → s.mayPass n = false) :
    s.timedEnd j x act = s := by
  unfold State.timedEnd
  split
  · rename_i hs
    refine atDate_early (h _ ?_)
    rw [if_pos hs, stationMissing_timed (by rw [hs]; exact hx), hs]
  · rfl

theorem waitExpiry_early {x : Phase} {seconds : Nat} {cause : TripCauses} (hx : s.chamber.limits.timeout x = some seconds)
    (h : ∀ n, (if s.chamber.standing.phase = some x then s.chamber.missing else none) = some n → s.mayPass n = false) :
    s.waitExpiry x seconds cause = s := by
  unfold State.waitExpiry
  split
  · rename_i c hc
    split
    · rename_i hphase
      refine atDate_early (h _ ?_)
      have hrun : (ChamberStanding.charging c).phase = some x := congrArg some hphase
      rw [hc, if_pos hrun, Chamber.missing, hc]
      dsimp only
      rw [hphase, hx]
      rfl
    · rfl
  · rfl

theorem passProbeTimeout_early (h : ∀ n, s.scanner.inProgress.map ScanInProgress.missing = some n → s.mayPass n = false) :
    s.passProbeTimeout = s := by
  unfold State.passProbeTimeout
  split
  · rfl
  · rename_i p hp
    exact atDate_early (h _ (by rw [hp]; rfl))

theorem endSending_early (h : ∀ n, s.link.sending.map Sending.missing = some n → s.mayPass n = false) : s.endSending = s := by
  unfold State.endSending
  split
  · rfl
  · rename_i x hx
    exact atDate_early (h _ (by rw [hx]; rfl))

theorem gapTimeout_early (h : ∀ n, s.link.rx.missing = some n → s.mayPass n = false) : s.gapTimeout = s := by
  unfold State.gapTimeout
  split
  · rfl
  · rename_i bytes gap hgap
    exact atDate_early (h _ (by rw [hgap]; rfl))

/-- A command of a dated event settles alone while its timer does not run or another dated event is due earlier. -/
theorem exec_early {i : Instr} (hi : isDated i) (h : ∀ n, s.dateOf i = some n → s.mayPass n = false) :
    exec i s = .next s.settle := by
  have stays {act : State → State} (e : eventOf i = some act) (hact : act s = s) : exec i s = .next s.settle := by
    rw [exec_event e, hact]
  obtain hi | ⟨j, hi⟩ := hi
  · simp only [List.mem_cons, List.not_mem_nil, or_false] at hi
    obtain rfl | rfl | rfl | rfl | rfl | rfl := hi
    · exact stays rfl (atDate_early (h _ rfl))
    · exact stays rfl (passProbeTimeout_early h)
    · exact stays rfl (endSending_early h)
    · exact stays rfl (gapTimeout_early h)
    · exact stays rfl (waitExpiry_early rfl h)
    · exact stays rfl (waitExpiry_early rfl h)
  · simp only [List.mem_cons, List.not_mem_nil, or_false] at hi
    obtain rfl | rfl | rfl | rfl | rfl := hi
    all_goals exact stays rfl (timedEnd_early rfl h)

end dated

/-- Settles O2: one tick, the choice among own events, and a dated event that is not due. -/
theorem idleRaisesAnEventOrPassesATick : Obligations.IdleRaisesAnEventOrPassesATick := by
  refine ⟨fun s hempty hquiet => ?_, fun s hempty hready => ?_, fun i s hi h => exec_early hi h⟩
  · have hstep : step s = .next (s.elapse 1).settle := by
      unfold step
      rw [hempty]
      exact congrArg _ (idle_quiet hquiet)
    refine ⟨_, hstep, rfl, rfl, rfl, fun i => ?_, fun c hc => ?_, fun x hx => tick_sending hx, rfl⟩
    · rw [State.settle_station, State.elapse_station]
      exact elapse_one i _
    · have hstanding : (s.elapse 1).settle.chamber.standing = s.chamber.standing.elapse 1 := rfl
      rw [hstanding, hc]
      exact elapse_charging c
  · obtain ⟨i, hi, n, hidle⟩ := idle_ready hready
    refine ⟨i, hi, n, ?_⟩
    unfold step
    rw [hempty]
    exact congrArg _ hidle

end Sys2Proof.Proofs.Idling

/-! # The records of the queries, field by field (11.2, 11.5, 11.6, 11.9, 11.11)

A record is blocks one after the other. A field is looked for from the last block backwards: a block that begins at or before it
holds it, else it lies inside the blocks before. -/

namespace Sys2Proof.Proofs.Layouts
open Sys2Proof Sys2Proof.Machine Sys2Proof.Proofs.Fields Sys2Proof.Proofs.Tables

set_option Elab.async false

/-! ### Blocks -/

section blocks
variable {a b : List Byte} {o w : Nat}

theorem field_inside (h : o + w ≤ a.length) : field (a ++ b) o w = field a o w := by
  unfold field
  rw [List.drop_append_of_le_length (by omega), List.take_append_of_le_length (by rw [List.length_drop]; omega)]

theorem presence_eq (l : List Byte) : 0x01#8 :: l = leBytes 1 1 ++ l := rfl

theorem leValue_zeros (n : Nat) : leValue (List.replicate n 0x00#8) = 0 := by
  induction n with
  | zero => rfl
  | succ n ih => rw [List.replicate_succ, leValue, ih]; rfl

theorem field_zeros (n o w : Nat) : field (List.replicate n 0x00#8) o w = 0 := by
  rw [field, List.drop_replicate, List.take_replicate, leValue_zeros]

theorem leBytes_zeros (w : Nat) : leBytes w 0 = List.replicate w 0x00#8 := by
  induction w with
  | zero => rfl
  | succ w ih => rw [leBytes, Nat.zero_div, ih]; rfl

theorem optional_none (w : Nat) : optional w none = List.replicate (w + 1) 0x00#8 := by
  rw [Machine.optional, leBytes_zeros]; rfl

theorem optionalSigned_none (w : Nat) : optionalSigned w none = List.replicate (w + 1) 0x00#8 := by
  rw [optionalSigned, leBytes_zeros]; rfl

/-- R195: the presence byte of an optional field. -/
theorem field_optional_presence (w : Nat) (x : Option Nat) : field (optional w x) 0 1 = if x.isSome then 1 else 0 := by
  cases x <;> rfl

/-- R195: the value of an optional field, zeros when absent. -/
theorem field_optional_value (w : Nat) (x : Option Nat) : field (optional w x) 1 w = x.getD 0 % 256 ^ w := by
  cases x with
  | none => rw [optional_none, field_zeros]; exact (Nat.zero_mod _).symm
  | some n => exact (field_skip [0x01#8] (leBytes w n) 1 w (Nat.le_refl 1)).trans (field_last w n)

theorem field_optionalSigned_presence (w : Nat) (x : Option Int) :
    field (optionalSigned w x) 0 1 = if x.isSome then 1 else 0 := by cases x <;> rfl

/-- R195: a signed field is written modulo its width. -/
theorem field_signed (w : Nat) (x : Int) : (field (signedBytes w x) 0 w : Int) = x % ((256 ^ w : Nat) : Int) := by
  have hpos : (0 : Int) < ((256 ^ w : Nat) : Int) := Int.natCast_pos.mpr (Nat.pow_pos (by decide))
  have hnonneg := Int.emod_nonneg x (Int.ne_of_gt hpos)
  have hlt := Int.emod_lt_of_pos x hpos
  have hfield : field (signedBytes w x) 0 w = (x % ((256 ^ w : Nat) : Int)).toNat := by
    rw [signedBytes, field_last, Nat.mod_eq_of_lt ((Int.toNat_lt hnonneg).mpr hlt)]
  rw [hfield, Int.toNat_of_nonneg hnonneg]

theorem field_optionalSigned_value (w : Nat) (x : Option Int) :
    (field (optionalSigned w x) 1 w : Int) = x.getD 0 % ((256 ^ w : Nat) : Int) := by
  cases x with
  | none => rw [optionalSigned_none, field_zeros]; rfl
  | some n => exact (congrArg Nat.cast (field_skip [0x01#8] (signedBytes w n) 1 w (Nat.le_refl 1))).trans (field_signed w n)

/-! ### Equal blocks -/

theorem places_length (w count : Nat) (l : List Nat) : (places w count l).length = w * count := by
  induction count generalizing l with
  | zero => rfl
  | succ n ih => cases l <;> simp [places, ih, Nat.mul_succ, Nat.add_comm]

/-- 11.5: the k-th of a record's places. -/
theorem field_places {w count k : Nat} (hk : k < count) (l : List Nat) :
    field (places w count l) (w * k) w = (l[k]?).getD 0 % 256 ^ w := by
  induction count generalizing l k with
  | zero => exact absurd hk (Nat.not_lt_zero k)
  | succ n ih =>
    have hstart : places w (n + 1) l = leBytes w (l.headD 0) ++ places w n l.tail := by cases l <;> rfl
    rw [hstart]
    cases k with
    | zero => rw [Nat.mul_zero, field_here]; cases l <;> rfl
    | succ k =>
      rw [field_skip _ _ _ _ (by rw [leBytes_length]; exact Nat.le_mul_of_pos_right w (Nat.succ_pos k)), leBytes_length, Nat.mul_succ,
        Nat.add_sub_cancel, ih (Nat.lt_of_succ_lt_succ hk)]
      cases l <;> rfl

section equal
variable {α : Type} {f : α → List Byte} {n : Nat}

theorem flatMap_length (h : ∀ x, (f x).length = n) (l : List α) : (l.flatMap f).length = n * l.length := by
  induction l with
  | nil => rfl
  | cons x l ih => rw [List.flatMap_cons, List.length_append, h, ih, List.length_cons, Nat.mul_succ, Nat.add_comm]

/-- A field of the k-th of blocks of one length. -/
theorem field_flatMap (h : ∀ x, (f x).length = n) {l : List α} {k : Nat} {x : α} (hx : l[k]? = some x) (hw : o + w ≤ n) :
    field (l.flatMap f) (n * k + o) w = field (f x) o w := by
  induction l generalizing k with
  | nil => cases hx
  | cons y l ih =>
    rw [List.flatMap_cons]
    cases k with
    | zero =>
      cases hx
      rw [Nat.mul_zero, Nat.zero_add, field_inside (by rw [h]; exact hw)]
    | succ k =>
      have hskip : n * (k + 1) + o - (f y).length = n * k + o := by rw [h, Nat.mul_succ]; omega
      rw [field_skip _ _ _ _ (by rw [h, Nat.mul_succ]; omega), hskip, ih hx]

end equal
end blocks


/-! ### Reading a record -/

/-- The rules that read a field of a record: the blocks are gone through from the last one backwards. -/
theorem reading_rules :
    (∀ (a b : List Byte) (o w : Nat), a.length ≤ o → field (a ++ b) o w = field b (o - a.length) w)
    ∧ (∀ (a b : List Byte) (o w : Nat), o + w ≤ a.length → field (a ++ b) o w = field a o w)
    ∧ (∀ w n : Nat, field (leBytes w n) 0 w = n % 256 ^ w)
    ∧ (∀ x : Bool, field (indicator x) 0 1 = if x then 1 else 0)
    ∧ (∀ n o w : Nat, field (List.replicate n 0x00#8) o w = 0)
    ∧ (∀ (w : Nat) (x : Option Nat), field (optional w x) 0 1 = if x.isSome then 1 else 0)
    ∧ (∀ (w : Nat) (x : Option Nat), field (optional w x) 1 w = x.getD 0 % 256 ^ w)
    ∧ (∀ (w : Nat) (x : Int), (field (signedBytes w x) 0 w : Int) = x % ((256 ^ w : Nat) : Int))
    ∧ (∀ (w : Nat) (x : Option Int), field (optionalSigned w x) 0 1 = if x.isSome then 1 else 0)
    ∧ (∀ (w : Nat) (x : Option Int), (field (optionalSigned w x) 1 w : Int) = x.getD 0 % ((256 ^ w : Nat) : Int)) :=
  ⟨field_skip, fun _ _ _ _ => field_inside, field_last, field_indicator, field_zeros, field_optional_presence, field_optional_value,
    field_signed, field_optionalSigned_presence, field_optionalSigned_value⟩

/-- The lengths of the blocks of a record. -/
theorem block_lengths :
    (∀ a b : List Byte, (a ++ b).length = a.length + b.length)
    ∧ (∀ w n : Nat, (leBytes w n).length = w)
    ∧ (∀ x : Bool, (indicator x).length = 1)
    ∧ (∀ n : Nat, (List.replicate n 0x00#8).length = n)
    ∧ (∀ (w : Nat) (x : Option Nat), (optional w x).length = w + 1)
    ∧ (∀ (w : Nat) (x : Int), (signedBytes w x).length = w)
    ∧ (∀ (w : Nat) (x : Option Int), (optionalSigned w x).length = w + 1)
    ∧ (∀ (w n : Nat) (l : List Nat), (places w n l).length = w * n) :=
  ⟨fun _ _ => List.length_append, leBytes_length, length_indicator, fun _ => List.length_replicate, optional_length,
    signedBytes_length, optionalSigned_length, places_length⟩

/-! ### The unit record (11.5) -/

theorem riseBytes_length (x : Option Int) : (riseBytes x).length = 5 := by
  unfold riseBytes
  cases x with
  | none => rfl
  | some i => dsimp only; split <;> rfl

theorem riseBytes_eq {x : Option Int} (h : ∀ r, x = some r → -2147483648 ≤ r ∧ r ≤ 2147483647) :
    riseBytes x = optionalSigned 4 x := by
  cases x with
  | none => rfl
  | some i => exact if_pos (h i rfl)

theorem degasBytes_length (d : Option DegasResult) : (degasBytes d).length = 18 := by
  cases d with
  | none => rfl
  | some d => simp [degasBytes, riseBytes_length]

theorem degasBytes_presence (d : Option DegasResult) : field (degasBytes d) 0 1 = if d.isSome then 1 else 0 := by
  cases d <;> rfl

/-- 11.5: the fields of a degas result. -/
theorem degasBytes_fields (d : DegasResult) : field (degasBytes (some d)) 1 4 = d.recovered % 4294967296
    ∧ hasSigned (degasBytes (some d)) 5 4 d.finalPressure
    ∧ ((∀ r, d.lastRise = some r → -2147483648 ≤ r ∧ r ≤ 2147483647) → hasOptionalSigned (degasBytes (some d)) 9 4 d.lastRise)
    ∧ field (degasBytes (some d)) 14 1 = d.reevacuations % 256 ∧ field (degasBytes (some d)) 15 2 = d.cycleTime % 65536
    ∧ field (degasBytes (some d)) 17 1 = d.station.val := by
  have hstation : d.station.val % 256 = d.station.val := Nat.mod_eq_of_lt (by omega)
  refine ⟨?_, ?_, fun h => ?_, ?_, ?_, ?_⟩
  case refine_3 =>
    simp only [hasOptionalSigned, hasSigned, degasBytes, riseBytes_eq h, presence_eq]
    simp (disch := simp) only [reading_rules, block_lengths, Nat.reduceAdd, Nat.reduceSub, and_self]
  all_goals
    simp (disch := simp [riseBytes_length]) only [hasSigned, degasBytes, presence_eq, reading_rules, block_lengths, riseBytes_length,
      Nat.reduceAdd, Nat.reduceSub, Nat.reducePow, hstation]

theorem unitState_code_lt (x : UnitState) : x.code < 256 := by cases x <;> decide

theorem verdict_code_lt (x : Verdict) : x.code < 256 := by cases x <;> decide

theorem anomaly_code_lt (x : Anomaly) : x.code < 256 := by cases x <;> decide

theorem unitRecord_length (u : UnitRecord) : u.bytes.length = 50 := by
  simp only [UnitRecord.bytes, block_lengths, degasBytes_length, Nat.reduceAdd, Nat.reduceMul]

theorem unitRecord_degas (u : UnitRecord) {o w : Nat} (h : o + w ≤ 18) :
    field u.bytes (16 + o) w = field (degasBytes u.degas) o w := by
  simp (disch := (simp only [block_lengths, degasBytes_length]; omega)) only [UnitRecord.bytes, field_inside]
  rw [field_skip _ _ _ _ (by simp only [block_lengths]; omega)]
  simp only [block_lengths, Nat.reduceAdd, Nat.add_sub_cancel_left]

theorem unitRecord_anomalies (u : UnitRecord) {k : Nat} (h : k < 4) :
    field u.bytes (43 + k) 1 = ((u.anomalies[k]?).map Anomaly.code).getD 0 := by
  have hcode : (((u.anomalies.map Anomaly.code)[k]?).getD 0) % 256 = ((u.anomalies[k]?).map Anomaly.code).getD 0 := by
    rw [List.getElem?_map]
    cases u.anomalies[k]? with
    | none => rfl
    | some a => exact Nat.mod_eq_of_lt (anomaly_code_lt a)
  simp (disch := (simp only [block_lengths, degasBytes_length]; omega)) only [UnitRecord.bytes, field_inside]
  rw [field_skip _ _ _ _ (by simp only [block_lengths, degasBytes_length]; omega)]
  simp only [block_lengths, degasBytes_length, Nat.reduceAdd, Nat.add_sub_cancel_left]
  have hplaces := field_places (w := 1) h (u.anomalies.map Anomaly.code)
  rw [Nat.one_mul] at hplaces
  exact hplaces.trans hcode

theorem indicators_mask (a b : Bool) : maskOf [a, b] % 256 = (if a then 1 else 0) + (if b then 2 else 0) := by
  cases a <;> cases b <;> rfl

/-- 11.5: the other fields of a unit record. -/
theorem unitRecord_fields (u : UnitRecord) : field u.bytes 0 4 = u.tag % 4294967296
    ∧ field u.bytes 4 2 = u.admission % 65536 ∧ field u.bytes 6 1 = u.cls % 256 ∧ field u.bytes 7 1 = u.state.code
    ∧ hasOptional u.bytes 8 2 u.nameplate ∧ hasOptional u.bytes 11 2 u.foamWeight
    ∧ hasOptional u.bytes 14 1 (u.station.map (·.val)) ∧ hasOptional u.bytes 34 2 u.charge ∧ hasOptional u.bytes 37 4 u.share
    ∧ field u.bytes 42 1 = u.anomalies.length % 256
    ∧ field u.bytes 47 1 = (if u.truncated then 1 else 0) + (if u.severe then 2 else 0)
    ∧ hasOptional u.bytes 48 1 (u.verdict.map Verdict.code) := by
  have hcode : u.state.code % 256 = u.state.code := Nat.mod_eq_of_lt (unitState_code_lt _)
  simp (disch := simp [degasBytes_length, places_length]) only [UnitRecord.bytes, hasOptional, reading_rules, block_lengths,
    degasBytes_length, Nat.reduceAdd, Nat.reduceMul, Nat.reduceSub, Nat.reducePow, hcode, indicators_mask, and_self]

end Sys2Proof.Proofs.Layouts

/-! # What the queries report, field by field (11.5, 11.6, 11.9, 11.11) -/

namespace Sys2Proof.Proofs.Records
open Sys2Proof Sys2Proof.Machine Sys2Proof.Proofs.Fields Sys2Proof.Proofs.Tables Sys2Proof.Proofs.Layouts

set_option Elab.async false

/-! ### The codes fit their bytes (11.4) -/

theorem familyCode_mod (x : Family) : familyCode x % 256 = familyCode x := by cases x <;> rfl

theorem receiverState_code_mod (x : ReceiverState) : x.code % 256 = x.code := by cases x <;> rfl

theorem mark_code_mod (x : Mark) : x.code % 256 = x.code := by cases x <;> rfl

theorem slotStatus_code_mod (x : SlotStatus) : x.code % 256 = x.code := by cases x <;> rfl

theorem condition_code_mod (x : Condition) : x.code % 256 = x.code := Nat.mod_eq_of_lt (condition_code_lt x)

theorem chamberStanding_code_mod (x : ChamberStanding) : x.code % 256 = x.code := Nat.mod_eq_of_lt (chamberStanding_code_lt x)

theorem lineMode_code_mod (x : LineMode) : x.code % 256 = x.code := Nat.mod_eq_of_lt (lineMode_code_lt x)

theorem tripCauses_mask_mod (x : TripCauses) : x.mask % 256 = x.mask := Nat.mod_eq_of_lt (tripCauses_mask_lt x)

theorem chargeFlags_mask_mod (x : ChargeFlags) : x.mask % 256 = x.mask := Nat.mod_eq_of_lt (Nat.lt_of_lt_of_le (maskOf_lt _) (by simp))

theorem index_mod {n : Nat} (i : Fin n) (h : n ≤ 256 := by decide) : i.val % 256 = i.val :=
  Nat.mod_eq_of_lt (Nat.lt_of_lt_of_le i.isLt h)

/-! ### The unit record -/

theorem unitRecord_eq (u : UnitRecord) : u.bytes.length = 50 ∧ field u.bytes 0 4 = u.tag % 4294967296
    ∧ field u.bytes 4 2 = u.admission % 65536 ∧ field u.bytes 6 1 = u.cls % 256 ∧ field u.bytes 7 1 = u.state.code
    ∧ hasOptional u.bytes 8 2 u.nameplate ∧ hasOptional u.bytes 11 2 u.foamWeight
    ∧ hasOptional u.bytes 14 1 (u.station.map (·.val)) ∧ field u.bytes 16 1 = (if u.degas.isSome then 1 else 0)
    ∧ (u.degas = none → ∀ k, 17 ≤ k → k ≤ 33 → field u.bytes k 1 = 0)
    ∧ (∀ d, u.degas = some d → field u.bytes 17 4 = d.recovered % 4294967296 ∧ hasSigned u.bytes 21 4 d.finalPressure
        ∧ ((∀ r, d.lastRise = some r → -2147483648 ≤ r ∧ r ≤ 2147483647) → hasOptionalSigned u.bytes 25 4 d.lastRise)
        ∧ field u.bytes 30 1 = d.reevacuations % 256 ∧ field u.bytes 31 2 = d.cycleTime % 65536
        ∧ field u.bytes 33 1 = d.station.val)
    ∧ hasOptional u.bytes 34 2 u.charge ∧ hasOptional u.bytes 37 4 u.share ∧ field u.bytes 42 1 = u.anomalies.length % 256
    ∧ (∀ k, k < 4 → field u.bytes (43 + k) 1 = ((u.anomalies[k]?).map Anomaly.code).getD 0)
    ∧ field u.bytes 47 1 = (if u.truncated then 1 else 0) + (if u.severe then 2 else 0)
    ∧ hasOptional u.bytes 48 1 (u.verdict.map Verdict.code) := by
  obtain ⟨htag, hadmission, hclass, hstate, hnameplate, hfoam, hstation, hcharge, hshare, hcount, hflags, hverdict⟩ := unitRecord_fields u
  have hdegas (o w : Nat) (h : o + w ≤ 18 := by decide) := unitRecord_degas u h
  refine ⟨unitRecord_length u, htag, hadmission, hclass, hstate, hnameplate, hfoam, hstation, ?_, fun hd k hlow hhigh => ?_,
    fun d hd => ?_, hcharge, hshare, hcount, fun k hk => unitRecord_anomalies u hk, hflags, hverdict⟩
  · exact (hdegas 0 1).trans (degasBytes_presence _)
  · have hk := hdegas (k - 16) 1 (by omega)
    rw [show 16 + (k - 16) = k by omega, hd] at hk
    exact hk.trans (field_zeros 18 (k - 16) 1)
  · rw [hd] at hdegas
    obtain ⟨hrecovered, hfinal, hrise, hagain, htime, hwhere⟩ := degasBytes_fields d
    exact ⟨(hdegas 1 4).trans hrecovered, (congrArg Nat.cast (hdegas 5 4)).trans hfinal,
      fun h => ⟨(hdegas 9 1).trans (hrise h).1, (congrArg Nat.cast (hdegas 10 4)).trans (hrise h).2⟩,
      (hdegas 14 1).trans hagain, (hdegas 15 2).trans htime, (hdegas 17 1).trans hwhere⟩

/-! ### The charge record (11.6) -/

section charge
variable (r : ChargeRecord)

theorem chargeRecord_length : r.bytes.length = 104 := by
  simp only [ChargeRecord.bytes, block_lengths, Nat.reduceAdd, Nat.reduceMul]

theorem pairs_getElem? (l : List (Nat × Nat)) (k : Nat) : (l.flatMap fun u => [u.1, u.2])[2 * k]? = (l[k]?).map (·.1)
    ∧ (l.flatMap fun u => [u.1, u.2])[2 * k + 1]? = (l[k]?).map (·.2) := by
  induction l generalizing k with
  | nil => exact ⟨rfl, rfl⟩
  | cons u l ih =>
    cases k with
    | zero => exact ⟨rfl, rfl⟩
    | succ k => exact ih k

/-- 11.6: the figures of the units of a charge, one after the other. -/
theorem chargeRecord_places {j : Nat} (h : j < 16) :
    field r.bytes (40 + 4 * j) 4 = ((r.units.flatMap fun u => [u.1, u.2])[j]?).getD 0 % 4294967296 := by
  rw [ChargeRecord.bytes, field_skip _ _ _ _ (by simp only [block_lengths]; omega)]
  simp only [block_lengths, Nat.reduceAdd, Nat.add_sub_cancel_left]
  exact field_places h _

theorem chargeRecord_eq : r.bytes.length = 104 ∧ field r.bytes 0 2 = r.number % 65536 ∧ field r.bytes 2 1 = r.flags.mask
    ∧ field r.bytes 3 1 = familyCode r.mode ∧ field r.bytes 4 1 = r.gas.val ∧ field r.bytes 5 4 = r.period % 4294967296
    ∧ field r.bytes 9 4 = r.s % 4294967296 ∧ field r.bytes 13 4 = r.e % 4294967296
    ∧ field r.bytes 17 2 = r.baselineUsed % 65536 ∧ field r.bytes 19 4 = r.scansIntegrated % 4294967296
    ∧ field r.bytes 23 4 = r.heldScans % 4294967296 ∧ field r.bytes 27 4 = r.clampedScans % 4294967296
    ∧ field r.bytes 31 4 = r.mass % 4294967296 ∧ field r.bytes 35 4 = r.residue % 4294967296
    ∧ field r.bytes 39 1 = r.units.length % 256
    ∧ ∀ k, k < 8 → field r.bytes (40 + 8 * k) 4 = ((r.units[k]?).map (·.1)).getD 0 % 4294967296
        ∧ field r.bytes (44 + 8 * k) 4 = ((r.units[k]?).map (·.2)).getD 0 % 4294967296 := by
  have hplaces (k : Nat) (hk : k < 8) : field r.bytes (40 + 8 * k) 4 = ((r.units[k]?).map (·.1)).getD 0 % 4294967296
      ∧ field r.bytes (44 + 8 * k) 4 = ((r.units[k]?).map (·.2)).getD 0 % 4294967296 := by
    have htag := chargeRecord_places r (j := 2 * k) (by omega)
    have hshare := chargeRecord_places r (j := 2 * k + 1) (by omega)
    rw [(pairs_getElem? r.units k).1, show 40 + 4 * (2 * k) = 40 + 8 * k by omega] at htag
    rw [(pairs_getElem? r.units k).2, show 40 + 4 * (2 * k + 1) = 44 + 8 * k by omega] at hshare
    exact ⟨htag, hshare⟩
  refine ⟨chargeRecord_length r, ?_, ?_, ?_, ?_, ?_, ?_, ?_, ?_, ?_, ?_, ?_, ?_, ?_, ?_, hplaces⟩
  all_goals
    simp (disch := simp [places_length]) only [ChargeRecord.bytes, reading_rules, block_lengths, Nat.reduceAdd, Nat.reduceMul,
      Nat.reduceSub, Nat.reducePow, chargeFlags_mask_mod, familyCode_mod, index_mod]

end charge

/-! ### The receiver (11.11) -/

section receiver

/-- 11.11: the current cylinder's fields. -/
def cylinderBytes (c : Option Cylinder) : List Byte :=
  match c with
  | none => List.replicate 25 0x00#8
  | some c =>
    0x01#8 :: (leBytes 4 c.serial ++ leBytes 4 c.tare ++ leBytes 8 c.delivered ++ leBytes 8 (milligrams c.delivered))

/-- 11.11: the last closed cylinder's fields. -/
def closedBytes (c : Option ClosedCylinder) : List Byte :=
  match c with
  | none => List.replicate 35 0x00#8
  | some c => 0x01#8 :: c.bytes

theorem cylinderBytes_length (c : Option Cylinder) : (cylinderBytes c).length = 25 := by cases c <;> rfl

theorem closedBytes_length (c : Option ClosedCylinder) : (closedBytes c).length = 35 := by
  cases c with
  | none => rfl
  | some c => simp only [closedBytes, ClosedCylinder.bytes, presence_eq, block_lengths, Nat.reduceAdd]

theorem cylinderBytes_fields (c : Option Cylinder) : field (cylinderBytes c) 0 1 = (if c.isSome then 1 else 0)
    ∧ field (cylinderBytes c) 1 4 = (c.map (·.serial)).getD 0 % 4294967296
    ∧ field (cylinderBytes c) 5 4 = (c.map (·.tare)).getD 0 % 4294967296
    ∧ field (cylinderBytes c) 9 8 = (c.map (·.delivered)).getD 0 % 2 ^ 64
    ∧ field (cylinderBytes c) 17 8 = (c.map (·.delivered)).getD 0 / 1000000 % 2 ^ 64 := by
  cases c with
  | none => exact ⟨rfl, rfl, rfl, rfl, rfl⟩
  | some c =>
    refine ⟨rfl, ?_, ?_, ?_, ?_⟩
    all_goals
      simp (disch := simp) only [cylinderBytes, presence_eq, reading_rules, block_lengths, milligrams, Nat.reduceAdd, Nat.reduceSub,
        Nat.reducePow, Option.map_some, Option.getD_some]

theorem closedBytes_fields (c : ClosedCylinder) : field (closedBytes (some c)) 1 4 = c.serial % 4294967296
    ∧ field (closedBytes (some c)) 5 4 = c.tare % 4294967296 ∧ hasOptionalSigned (closedBytes (some c)) 9 8 c.netWeighed
    ∧ field (closedBytes (some c)) 18 8 = c.delivered % 2 ^ 64 ∧ hasOptionalSigned (closedBytes (some c)) 26 8 c.difference := by
  simp (disch := simp) only [hasOptionalSigned, hasSigned, closedBytes, ClosedCylinder.bytes, presence_eq, reading_rules,
    block_lengths, Nat.reduceAdd, Nat.reduceSub, Nat.reducePow, and_self]

variable (s : State) (f : Family)

theorem receiverBytes_eq : s.receiverBytes f
    = leBytes 1 (s.receiver f).standing.name.code ++ leBytes 4 (s.receiver f).fillLimit ++ leBytes 1 (s.weightCondition f).code
      ++ optionalSigned 4 (s.receiver f).weight ++ optionalSigned 8 (s.receiver f).netWeight
      ++ cylinderBytes (s.receiver f).standing.cylinder ++ closedBytes (s.receiver f).lastClosed
      ++ leBytes 1 (s.countStations f fun st => st.state = .evacuating)
      ++ leBytes 1 (s.countStations f fun st => st.state = .suspended && st.causes.receiver) := rfl

theorem receiverBytes_length : (s.receiverBytes f).length = 82 := by
  simp only [receiverBytes_eq, block_lengths, cylinderBytes_length, closedBytes_length, Nat.reduceAdd]

theorem netWeight_eq (r : Receiver) :
    r.netWeight = r.standing.cylinder.bind fun x => r.weight.map fun w => w - (x.tare : Int) := by
  unfold Receiver.netWeight
  cases r.standing.cylinder <;> cases r.weight <;> rfl

theorem countStations_mod (p : Station → Bool) : s.countStations f p % 256 = s.countStations f p :=
  Nat.mod_eq_of_lt (Nat.lt_of_le_of_lt (List.length_filter_le ..) (by decide : allStations.length < 256))

theorem receiver_cylinder {o w : Nat} (h : o + w ≤ 25) :
    field (s.receiverBytes f) (20 + o) w = field (cylinderBytes (s.receiver f).standing.cylinder) o w := by
  simp (disch := (simp only [block_lengths, cylinderBytes_length, closedBytes_length]; omega)) only [receiverBytes_eq, field_inside]
  rw [field_skip _ _ _ _ (by simp only [block_lengths]; omega)]
  simp only [block_lengths, Nat.reduceAdd, Nat.add_sub_cancel_left]

theorem receiver_closed {o w : Nat} (h : o + w ≤ 35) :
    field (s.receiverBytes f) (45 + o) w = field (closedBytes (s.receiver f).lastClosed) o w := by
  simp (disch := (simp only [block_lengths, cylinderBytes_length, closedBytes_length]; omega)) only [receiverBytes_eq, field_inside]
  rw [field_skip _ _ _ _ (by simp only [block_lengths, cylinderBytes_length]; omega)]
  simp only [block_lengths, cylinderBytes_length, Nat.reduceAdd, Nat.add_sub_cancel_left]

theorem receiver_fields : field (s.receiverBytes f) 0 1 = (s.receiver f).standing.name.code
    ∧ field (s.receiverBytes f) 1 4 = (s.receiver f).fillLimit % 4294967296
    ∧ field (s.receiverBytes f) 5 1 = (s.latestReading (roleReceiverWeight f)).condition.code
    ∧ hasOptionalSigned (s.receiverBytes f) 6 4 (s.receiver f).weight
    ∧ hasOptionalSigned (s.receiverBytes f) 11 8 (s.receiver f).netWeight
    ∧ field (s.receiverBytes f) 80 1 = s.countStations f (fun st => st.state = .evacuating)
    ∧ field (s.receiverBytes f) 81 1 = s.countStations f (fun st => st.state = .suspended && st.causes.receiver) := by
  simp (disch := simp [cylinderBytes_length, closedBytes_length]) only [receiverBytes_eq, hasOptionalSigned, hasSigned, reading_rules,
    block_lengths, cylinderBytes_length, closedBytes_length, Nat.reduceAdd, Nat.reduceSub, Nat.reducePow, receiverState_code_mod,
    State.weightCondition, condition_code_mod, countStations_mod, and_self]

end receiver

/-! ### The chamber (11.11) -/

section chamber

/-- 11.11: the current charge's fields, zeros without one. -/
def chargeBytes (x : ChamberStanding) : List Byte :=
  match x with
  | .charging x => x.queryBytes
  | _ => List.replicate 49 0x00#8

theorem settings_length (c : ChamberSettings) : c.bytes.length = 14 := by
  simp only [ChamberSettings.bytes, block_lengths, Nat.reduceAdd]

theorem chamberLimits_length (l : ChamberLimits) : l.bytes.length = 7 := by
  simp only [ChamberLimits.bytes, block_lengths, Nat.reduceAdd]

/-- 11.6: the fields of chamber settings. -/
theorem settings_fields (c : ChamberSettings) : field c.bytes 0 1 = familyCode c.mode ∧ field c.bytes 1 1 = c.gas.val
    ∧ field c.bytes 2 2 = c.b % 65536 ∧ field c.bytes 4 1 = c.x % 256 ∧ field c.bytes 5 4 = c.s % 4294967296
    ∧ field c.bytes 9 4 = c.e % 4294967296 ∧ field c.bytes 13 1 = c.k % 256 := by
  simp (disch := simp) only [ChamberSettings.bytes, reading_rules, block_lengths, familyCode_mod, index_mod, Nat.reduceAdd,
    Nat.reduceSub, Nat.reducePow, and_self]

theorem chamberLimits_fields (l : ChamberLimits) : field l.bytes 0 1 = l.inertPermit % 256
    ∧ field l.bytes 1 2 = l.inertTimeout % 65536 ∧ field l.bytes 3 2 = l.ventLevel % 65536
    ∧ field l.bytes 5 2 = l.ventTimeout % 65536 := by
  simp (disch := simp) only [ChamberLimits.bytes, reading_rules, block_lengths, Nat.reduceAdd, Nat.reduceSub, Nat.reducePow, and_self]

theorem charge_length (x : Charge) : x.queryBytes.length = 49 := by
  simp only [Charge.queryBytes, presence_eq, block_lengths, Nat.reduceAdd, Nat.reduceMul]

theorem chargeBytes_length (x : ChamberStanding) : (chargeBytes x).length = 49 := by
  cases x with
  | charging c => exact charge_length c
  | _ => rfl

theorem chargeBytes_none {x : ChamberStanding} (h : ∀ c, x ≠ .charging c) : chargeBytes x = List.replicate 49 0x00#8 := by
  cases x with
  | charging c => exact absurd rfl (h c)
  | _ => rfl

theorem waitSeconds_eq (x : Charge) :
    x.waitSeconds = if x.phase = .inertWait ∨ x.phase = .ventWait then some (x.waitElapsed / 10000) else none := by
  unfold Charge.waitSeconds
  cases x.phase <;> rfl

theorem milligrams32_mod (n : Nat) : milligrams32 n % 4294967296 = min (n / 1000000) 4294967295 :=
  Nat.mod_eq_of_lt (Nat.lt_of_le_of_lt (Nat.min_le_right ..) (by decide))

/-- 11.11: the fields of the current charge. -/
theorem charge_fields (x : Charge) : field x.queryBytes 0 1 = 1 ∧ field x.queryBytes 1 2 = x.number % 65536
    ∧ field x.queryBytes 3 1 = (if x.flags.void then 1 else 0) ∧ field x.queryBytes 4 1 = x.units.length % 256
    ∧ field x.queryBytes 37 4 = x.index % 4294967296 ∧ hasOptional x.queryBytes 41 2 x.waitSeconds
    ∧ field x.queryBytes 44 4 = min (x.mass / 1000000) 4294967295 ∧ field x.queryBytes 48 1 = x.flags.mask := by
  refine ⟨rfl, ?_⟩
  simp (disch := simp [places_length]) only [Charge.queryBytes, presence_eq, hasOptional, reading_rules, block_lengths, Nat.reduceAdd,
    Nat.reduceMul, Nat.reduceSub, Nat.reducePow, milligrams32_mod, chargeFlags_mask_mod, and_self]

theorem charge_units (x : Charge) {k : Nat} (h : k < 8) :
    field x.queryBytes (5 + 4 * k) 4 = (x.units[k]?).getD 0 % 4294967296 := by
  simp (disch := (simp only [block_lengths]; omega)) only [Charge.queryBytes, presence_eq, ← List.append_assoc, field_inside]
  rw [field_skip _ _ _ _ (by simp only [block_lengths]; omega)]
  simp only [block_lengths, Nat.reduceAdd, Nat.add_sub_cancel_left]
  exact field_places h _

variable (c : Chamber)

theorem queryBytes_eq : c.queryBytes = leBytes 1 c.standing.code ++ optional 1 (c.standing.phase.map Phase.code)
    ++ indicator c.stopPending ++ c.inForce.bytes ++ leBytes 4 c.inForce.period ++ c.staged.bytes
    ++ indicator c.stagingPending ++ indicator c.transitionPending ++ leBytes 2 c.counter ++ leBytes 2 c.baseline
    ++ indicator c.baselineHigh ++ c.limits.bytes ++ chargeBytes c.standing := by
  have hphase : (match c.standing with
      | .charging x => some x.phase.code
      | _ => none) = c.standing.phase.map Phase.code := by cases c.standing <;> rfl
  rw [← hphase]
  rfl

theorem chamber_length : c.queryBytes.length = 99 := by
  simp only [queryBytes_eq, block_lengths, settings_length, chamberLimits_length, chargeBytes_length, Nat.reduceAdd]

theorem chamber_charge {o w : Nat} : field c.queryBytes (50 + o) w = field (chargeBytes c.standing) o w := by
  rw [queryBytes_eq, field_skip _ _ _ _ (by simp only [block_lengths, settings_length, chamberLimits_length]; omega)]
  simp only [block_lengths, settings_length, chamberLimits_length, Nat.reduceAdd, Nat.add_sub_cancel_left]

theorem transition_indicator : (if c.transitionPending then 1 else 0)
    = if c.staged.mode ≠ c.inForce.mode ∨ c.staged.gas ≠ c.inForce.gas then 1 else 0 :=
  ite_congr (propext (by rw [Chamber.transitionPending, Bool.or_eq_true, decide_eq_true_iff, decide_eq_true_iff])) (fun _ => rfl) fun _ => rfl

theorem chamber_fields : field c.queryBytes 0 1 = c.standing.code ∧ hasOptional c.queryBytes 1 1 (c.standing.phase.map Phase.code)
    ∧ field c.queryBytes 3 1 = (if c.stopPending then 1 else 0) ∧ hasSettings c.queryBytes 4 c.inForce
    ∧ field c.queryBytes 18 4 = c.inForce.period % 4294967296 ∧ hasSettings c.queryBytes 22 c.staged
    ∧ field c.queryBytes 36 1 = (if c.stagingPending then 1 else 0)
    ∧ field c.queryBytes 37 1 = (if c.transitionPending then 1 else 0)
    ∧ field c.queryBytes 38 2 = c.counter % 65536 ∧ field c.queryBytes 40 2 = c.baseline % 65536
    ∧ field c.queryBytes 42 1 = (if c.baselineHigh then 1 else 0) ∧ field c.queryBytes 43 1 = c.limits.inertPermit % 256
    ∧ field c.queryBytes 44 2 = c.limits.inertTimeout % 65536 ∧ field c.queryBytes 46 2 = c.limits.ventLevel % 65536
    ∧ field c.queryBytes 48 2 = c.limits.ventTimeout % 65536 := by
  simp (disch := simp only [block_lengths, settings_length, chamberLimits_length, chargeBytes_length, Nat.reduceAdd,
      Nat.reduceLeDiff]) only
    [queryBytes_eq, hasOptional, hasSettings, reading_rules, block_lengths, settings_length, chamberLimits_length,
      chargeBytes_length, settings_fields, chamberLimits_fields, chamberStanding_code_mod, Nat.reduceAdd, Nat.reduceSub,
      Nat.reducePow, and_self]

end chamber

/-! ### Protection (11.11) -/

section protection
variable (s : State)

theorem protectionLimits_length (l : ProtectionLimits) : l.bytes.length = 5 := by
  simp only [ProtectionLimits.bytes, block_lengths, Nat.reduceAdd]

theorem protection_length : s.protectionBytes.length = 20 := by
  simp only [State.protectionBytes, block_lengths, protectionLimits_length, Nat.reduceAdd]

theorem protection_fields : field s.protectionBytes 0 1 = s.link.mode.code ∧ field s.protectionBytes 1 1 = s.protection.causes.mask
    ∧ field s.protectionBytes 2 1 = (if (s.link.mode = .offline && s.protection.causes.requestedTrip) = true then 1 else 0)
    ∧ field s.protectionBytes 3 1 = s.protection.limits.loadTripPercent % 256
    ∧ field s.protectionBytes 4 1 = s.protection.limits.oxygenTrip % 256
    ∧ field s.protectionBytes 5 1 = s.protection.limits.clearPercent % 256
    ∧ field s.protectionBytes 6 2 = s.protection.limits.clearHold % 65536
    ∧ hasOptional s.protectionBytes 8 2 s.loadTripLevel ∧ hasOptional s.protectionBytes 11 2 s.clearLevel
    ∧ hasOptional s.protectionBytes 14 4 s.holdTenths
    ∧ field s.protectionBytes 19 1 = (if (s.link.mode = .tripped && s.holdReached) = true then 1 else 0) := by
  simp (disch := simp [protectionLimits_length, length_indicator, -indicator_length]) only [State.protectionBytes, hasOptional,
    reading_rules, block_lengths, protectionLimits_length, ProtectionLimits.bytes, lineMode_code_mod, tripCauses_mask_mod,
    Nat.reduceAdd, Nat.reduceSub, Nat.reducePow, and_self]

theorem holdReached_iff : s.holdReached = true
    ↔ ∃ m ∈ s.protection.clearHold, s.protection.limits.clearHold * 10000 ≤ s.now - m := by
  unfold State.holdReached
  cases s.protection.clearHold with
  | none => simp
  | some m => simp only [Option.mem_some_iff, exists_eq_left']; exact decide_eq_true_iff

end protection

/-! ### The image (11.11) -/

section image
variable (s : State)

theorem allocationBytes_length (o : Option Allocation) : (allocationBytes o).length = 3 := by cases o <;> rfl

theorem allocationBytes_fields (o : Option Allocation) : field (allocationBytes o) 0 1 = (if o.isSome then 1 else 0)
    ∧ field (allocationBytes o) 1 1 = (o.map (·.first)).getD 0 % 256
    ∧ field (allocationBytes o) 2 1 = (o.map (·.granted)).getD 0 % 256 := by
  cases o with
  | none => exact ⟨rfl, rfl, rfl⟩
  | some a =>
    refine ⟨rfl, ?_⟩
    simp (disch := simp) only [allocationBytes, presence_eq, reading_rules, block_lengths, Nat.reduceAdd, Nat.reduceSub, Nat.reducePow,
      Option.map_some, Option.getD_some, and_self]

theorem slotBytes_length (n : SlotNo) (x : Slot) : (slotBytes n x).length = 10 := by
  simp only [slotBytes, block_lengths, allocationBytes_length, Nat.reduceAdd]

/-- 11.9: the fields of a slot. -/
theorem slotBytes_fields (n : SlotNo) (x : Slot) : field (slotBytes n x) 0 1 = n.val
    ∧ field (slotBytes n x) 1 1 = (if x.enabled then 1 else 0) ∧ field (slotBytes n x) 2 1 = x.address % 256
    ∧ field (slotBytes n x) 3 1 = x.firstValue % 256 ∧ field (slotBytes n x) 4 1 = x.count % 256
    ∧ field (slotBytes n x) 5 1 = x.misses % 256 ∧ field (slotBytes n x) 6 1 = x.status.code
    ∧ field (slotBytes n x) 7 1 = (if x.allocation.isSome then 1 else 0)
    ∧ field (slotBytes n x) 8 1 = (x.allocation.map (·.first)).getD 0 % 256
    ∧ field (slotBytes n x) 9 1 = (x.allocation.map (·.granted)).getD 0 % 256 := by
  simp (disch := simp [allocationBytes_length, length_indicator, -indicator_length]) only [slotBytes, reading_rules, block_lengths,
    allocationBytes_length, allocationBytes_fields, index_mod, slotStatus_code_mod, Nat.reduceAdd, Nat.reduceSub, Nat.reducePow,
    and_self]

/-- 11.11: a cell of the image. -/
def cellBytes (x : PublishedCell) : List Byte := signedBytes 4 x.value ++ leBytes 1 x.mark.code

theorem cellBytes_length (x : PublishedCell) : (cellBytes x).length = 5 := by
  simp only [cellBytes, block_lengths, Nat.reduceAdd]

theorem cellBytes_fields (x : PublishedCell) : hasSigned (cellBytes x) 0 4 x.value ∧ field (cellBytes x) 4 1 = x.mark.code := by
  simp (disch := simp) only [hasSigned, cellBytes, reading_rules, block_lengths, mark_code_mod, Nat.reduceSub, Nat.reduceAdd,
    Nat.reducePow, and_self]

theorem roleBytes_length (r : RoleNo) : (s.roleBytes r).length = 7 := by
  simp only [State.roleBytes, block_lengths, Nat.reduceAdd]

theorem roleBytes_fields (r : RoleNo) : hasOptional (s.roleBytes r) 0 1 ((s.scanner.roles[r]).binding.map (·.val))
    ∧ field (s.roleBytes r) 2 1 = (s.latestReading r).condition.code ∧ hasSigned (s.roleBytes r) 3 4 (s.latestReading r).value := by
  simp (disch := simp) only [hasOptional, hasSigned, State.roleBytes, reading_rules, block_lengths, condition_code_mod, Nat.reduceSub,
    Nat.reduceAdd, Nat.reducePow, and_self]

theorem imageBytes_eq : s.imageBytes = optional 2 (s.scanner.published.map (·.sequence))
    ++ leBytes 4 ((s.scanner.published.map (·.elapsed)).getD 0) ++ s.imageCells.flatMap cellBytes
    ++ leBytes 2 s.scanner.settlingRemaining ++ allSlots.flatMap (fun n => slotBytes n s.scanner.slots[n])
    ++ allRoles.flatMap s.roleBytes ++ leBytes 4 s.scanner.divisor ++ leBytes 1 s.scanner.holdLimit
    ++ leBytes 2 s.scanner.settlingCount := rfl

theorem imageCells_length : (s.imageCells.flatMap cellBytes).length = 240 := by
  have hcells : s.imageCells.length = 48 := by
    unfold State.imageCells
    split
    · rfl
    · exact Vector.length_toList
  rw [flatMap_length cellBytes_length, hcells]

theorem imageSlots_length : (allSlots.flatMap fun n => slotBytes n s.scanner.slots[n]).length = 120 := by
  rw [flatMap_length (fun n => slotBytes_length n _)]; rfl

theorem imageRoles_length : (allRoles.flatMap s.roleBytes).length = 119 := by
  rw [flatMap_length (roleBytes_length s)]; rfl

theorem image_length : s.imageBytes.length = 495 := by
  simp only [imageBytes_eq, block_lengths, imageCells_length, imageSlots_length, imageRoles_length, Nat.reduceAdd]

theorem image_fields : hasOptional s.imageBytes 0 2 (s.scanner.published.map (·.sequence))
    ∧ field s.imageBytes 3 4 = (s.scanner.published.map (·.elapsed)).getD 0 % 4294967296
    ∧ field s.imageBytes 247 2 = s.scanner.settlingRemaining % 65536
    ∧ field s.imageBytes 488 4 = s.scanner.divisor % 4294967296 ∧ field s.imageBytes 492 1 = s.scanner.holdLimit % 256
    ∧ field s.imageBytes 493 2 = s.scanner.settlingCount % 65536 := by
  rw [imageBytes_eq]
  refine ⟨?_, ?_, ?_, ?_, ?_, ?_⟩
  all_goals
    simp (disch := simp only [block_lengths, imageCells_length, imageSlots_length, imageRoles_length, Nat.reduceAdd, Nat.reduceLeDiff])
      only [hasOptional, reading_rules, block_lengths, imageCells_length, imageSlots_length, imageRoles_length, Nat.reduceAdd,
      Nat.reduceSub, Nat.reducePow, and_self]

theorem imageCells_getElem? (i : CellNo) :
    s.imageCells[i.val]? = some ((s.scanner.published.map fun x => x.cells[i]).getD ⟨0, .unsettled⟩) := by
  unfold State.imageCells
  cases s.scanner.published with
  | none => exact List.getElem?_replicate_of_lt i.isLt
  | some x => exact Vector.getElem?_toList.trans (Vector.getElem?_eq_getElem i.isLt)

theorem allSlots_getElem? (n : SlotNo) : allSlots[n.val]? = some n := by revert n; decide

theorem allRoles_getElem? (r : RoleNo) : allRoles[r.val]? = some r := by revert r; decide

theorem image_cell (i : CellNo) {o w : Nat} (h : o + w ≤ 5) : field s.imageBytes (7 + 5 * i.val + o) w
    = field (cellBytes ((s.scanner.published.map fun x => x.cells[i]).getD ⟨0, .unsettled⟩)) o w := by
  have hi := i.isLt
  simp (disch := (simp only [block_lengths, imageCells_length, imageSlots_length, imageRoles_length]; omega)) only
    [imageBytes_eq, field_inside]
  rw [field_skip _ _ _ _ (by simp only [block_lengths]; omega)]
  simp only [block_lengths, Nat.reduceAdd, Nat.add_assoc, Nat.add_sub_cancel_left]
  exact field_flatMap cellBytes_length (imageCells_getElem? s i) h

theorem image_slot (n : SlotNo) {o w : Nat} (h : o + w ≤ 10) :
    field s.imageBytes (249 + 10 * n.val + o) w = field (slotBytes n s.scanner.slots[n]) o w := by
  have hn := n.isLt
  simp (disch := (simp only [block_lengths, imageCells_length, imageSlots_length, imageRoles_length]; omega)) only
    [imageBytes_eq, field_inside]
  rw [field_skip _ _ _ _ (by simp only [block_lengths, imageCells_length]; omega)]
  simp only [block_lengths, imageCells_length, Nat.reduceAdd, Nat.add_assoc, Nat.add_sub_cancel_left]
  exact field_flatMap (fun n => slotBytes_length n _) (allSlots_getElem? n) h

theorem image_role (r : RoleNo) {o w : Nat} (h : o + w ≤ 7) :
    field s.imageBytes (369 + 7 * r.val + o) w = field (s.roleBytes r) o w := by
  have hr := r.isLt
  simp (disch := (simp only [block_lengths, imageCells_length, imageSlots_length, imageRoles_length]; omega)) only
    [imageBytes_eq, field_inside]
  rw [field_skip _ _ _ _ (by simp only [block_lengths, imageCells_length, imageSlots_length]; omega)]
  simp only [block_lengths, imageCells_length, imageSlots_length, Nat.reduceAdd, Nat.add_assoc, Nat.add_sub_cancel_left]
  exact field_flatMap (roleBytes_length s) (allRoles_getElem? r) h

end image

/-! ### The Shift Account (11.9) -/

section shift
variable (a : Shift)

theorem totals_length {n : Nat} (v : Vector Nat n) : (v.toList.flatMap (leBytes 8)).length = 8 * n := by
  rw [flatMap_length (leBytes_length 8), Vector.length_toList]

theorem totals_field {n : Nat} (v : Vector Nat n) (i : Fin n) : field (v.toList.flatMap (leBytes 8)) (8 * i.val) 8 = v[i] % 2 ^ 64 :=
  (field_flatMap (o := 0) (leBytes_length 8) (Vector.getElem?_toList.trans (Vector.getElem?_eq_getElem i.isLt)) (by decide)).trans
    (field_last 8 _)

theorem shift_length : a.bytes.length = 266 := by
  simp only [Shift.bytes, block_lengths, totals_length, Nat.reduceAdd, Nat.reduceMul]

theorem shift_fields : field a.bytes 0 2 = a.number % 65536 ∧ field a.bytes 234 8 = a.abandoned % 2 ^ 64
    ∧ field a.bytes 242 8 = a.trips % 2 ^ 64 ∧ field a.bytes 250 8 = a.charges % 2 ^ 64
    ∧ field a.bytes 258 8 = a.voidCharges % 2 ^ 64 := by
  refine ⟨?_, ?_, ?_, ?_, ?_⟩
  all_goals
    simp (disch := simp [-List.length_flatMap, totals_length]) only [Shift.bytes, reading_rules, block_lengths, totals_length,
      Nat.reduceAdd, Nat.reduceSub, Nat.reduceMul, Nat.reducePow]

theorem shift_totals : (∀ i : Fin 5, field a.bytes (2 + 8 * i.val) 8 = a.verdicts[i] % 2 ^ 64)
    ∧ ∀ g : GasIndex, field a.bytes (42 + 8 * g.val) 8 = a.refrigerant[g] % 2 ^ 64
      ∧ field a.bytes (106 + 8 * g.val) 8 = a.attributed[g] % 2 ^ 64
      ∧ field a.bytes (170 + 8 * g.val) 8 = a.unattributed[g] % 2 ^ 64 := by
  refine ⟨fun i => ?_, fun g => ⟨?_, ?_, ?_⟩⟩
  all_goals
    rw [← totals_field]
    simp (disch := (simp only [block_lengths, totals_length]; omega)) only [Shift.bytes, field_inside]
    rw [field_skip _ _ _ _ (by simp only [block_lengths, totals_length]; omega)]
    simp only [block_lengths, totals_length, Nat.reduceAdd, Nat.reduceMul, Nat.add_sub_cancel_left]

theorem verdict_place (v : Verdict) : v.place.val = v.code := by cases v <;> rfl

end shift

end Sys2Proof.Proofs.Records

/-! # The queries and READ_TRACE (1.6, 2.12, 3.5, 4.7, 5.1, 6.6, 7.7, 8.6) -/

namespace Sys2Proof.Proofs.Queries
open Sys2Proof Sys2Proof.Machine Sys2Proof.Proofs.Fields Sys2Proof.Proofs.Tables Sys2Proof.Proofs.Layouts
open Sys2Proof.Proofs.Records Sys2Proof.Proofs.Receivers Sys2Proof.Proofs.Admission

set_option Elab.async false

/-! ### The queries (10.7) -/

section queries
variable {s : State} {tag : Byte}

theorem readChargeNumber_bytes {n : Nat} (h : n < 65536) : readChargeNumber (leBytes 2 n) = some n := by
  have hn : n % 256 ^ 2 = n := Nat.mod_eq_of_lt h
  rw [readChargeNumber, ofLength_eq (by simp), field_last, hn]

theorem handleQueryUnit_notFound {n : Nat} (h : s.findUnit n = none) : handleQueryUnit n s = s.refuse .notFound := by
  unfold handleQueryUnit
  rw [h]

theorem handleQueryUnit_found {n : Nat} {u : UnitRecord} (h : s.findUnit n = some u) :
    handleQueryUnit n s = (s, ⟨.done, u.bytes⟩) := by
  unfold handleQueryUnit
  rw [h]

theorem handleReadCharge_notFound {n : Nat} (h : (s.chamber.history.reverse.find? fun r => r.number = n) = none) :
    handleReadCharge n s = s.refuse .notFound := by
  unfold handleReadCharge
  rw [h]

theorem handleReadCharge_found {n : Nat} {r : ChargeRecord} (h : (s.chamber.history.reverse.find? fun r => r.number = n) = some r) :
    handleReadCharge n s = (s, ⟨.done, r.bytes⟩) := by
  unfold handleReadCharge
  rw [h]

theorem exec_queryUnit {n : Nat} (hn : n < 2 ^ 32) (ht : s.TurnOf ⟨0x03#8, tag, leBytes 4 n⟩) :
    exec (.queryUnit tag (leBytes 4 n)) s = .next (s.takeFromQueue.sends
      (match s.tracker.units.find? fun u => u.tag = n with
        | none => replyFrame 0x03#8 tag .notFound []
        | some u => replyFrame 0x03#8 tag .done u.bytes)) := by
  cases h : s.tracker.units.find? fun u => u.tag = n with
  | none => exact exec_reading (h := handleQueryUnit) rfl rfl ht (readUnitTag_bytes hn) (handleQueryUnit_notFound h)
  | some u => exact exec_reading (h := handleQueryUnit) rfl rfl ht (readUnitTag_bytes hn) (handleQueryUnit_found h)

theorem exec_readCharge {n : Nat} (hn : n < 65536) (ht : s.TurnOf ⟨0x1C#8, tag, leBytes 2 n⟩) :
    exec (.readCharge tag (leBytes 2 n)) s = .next (s.takeFromQueue.sends
      (match s.chamber.history.reverse.find? fun r => r.number = n with
        | none => replyFrame 0x1C#8 tag .notFound []
        | some r => replyFrame 0x1C#8 tag .done r.bytes)) := by
  cases h : s.chamber.history.reverse.find? fun r => r.number = n with
  | none => exact exec_reading (h := handleReadCharge) rfl rfl ht (readChargeNumber_bytes hn) (handleReadCharge_notFound h)
  | some r => exact exec_reading (h := handleReadCharge) rfl rfl ht (readChargeNumber_bytes hn) (handleReadCharge_found h)

theorem exec_queryReceiver (f : Family) (ht : s.TurnOf ⟨0x12#8, tag, leBytes 1 (familyCode f)⟩) :
    exec (.queryReceiver tag (leBytes 1 (familyCode f))) s
      = .next (s.takeFromQueue.sends (replyFrame 0x12#8 tag .done (s.receiverBytes f))) := by
  have hread : handleQueryReceiver f s.takeFromQueue = (s.takeFromQueue, ⟨.done, s.receiverBytes f⟩) := by cases f <;> rfl
  exact exec_reading (h := handleQueryReceiver) rfl rfl ht (readReceiver_bytes f) hread

end queries

/-! ### READ_TRACE (2.12) -/

section trace
variable {s : State} {tag a b c : Byte} {i : StationNo}

theorem readReadTrace_bytes : readReadTrace [a, b, c] = some (a.toNat, b.toNat, c.toNat) := by
  have hlength : [a, b, c].length = 3 := rfl
  rw [readReadTrace, ofLength_eq hlength]
  simp only [field_cons, field_cons_here]

/-- R58: the entries from a start on, wrapping at the end of the ring. -/
def entriesFrom (ring : List TraceEntry) (start count : Nat) : List (List Byte) :=
  (List.range count).map fun k =>
    match ring[(start + k) % ring.length]? with
    | none => []
    | some x => traceBytes ((start + k) % ring.length) x

theorem traceEntries_eq (ring : List TraceEntry) (start count : Nat) :
    traceEntries ring start count = (entriesFrom ring start count).flatten := List.flatMap_def

theorem entriesFrom_getElem? {ring : List TraceEntry} {start count k : Nat} (hring : 0 < ring.length) (hk : k < count) :
    ∃ x, ring[(start + k) % ring.length]? = some x
      ∧ (entriesFrom ring start count)[k]? = some (traceBytes ((start + k) % ring.length) x) := by
  have hindex : (start + k) % ring.length < ring.length := Nat.mod_lt _ hring
  refine ⟨_, List.getElem?_eq_getElem hindex, ?_⟩
  rw [entriesFrom, List.getElem?_map, List.getElem?_range hk, Option.map_some, List.getElem?_eq_getElem hindex]

theorem handleReadTrace_outOfRange (h : 3 < a.toNat ∨ 32 < c.toNat) :
    handleReadTrace (a.toNat, b.toNat, c.toNat) s = s.refuse .outOfRange := by
  unfold handleReadTrace
  cases hi : numbered 4 a.toNat with
  | none => rfl
  | some i =>
    have hsmall : a.toNat < 4 := by
      unfold numbered at hi
      split at hi
      · assumption
      · cases hi
    exact if_pos (h.resolve_left (by omega))

/-- R58: what READ_TRACE answers for a station, by its ring. -/
theorem handleReadTrace_station (ha : a.toNat = i.val) (hc : c.toNat ≤ 32) :
    handleReadTrace (a.toNat, b.toNat, c.toNat) s
      = if (s.station i).trace.length = 0 then (s, ⟨.done, leBytes 1 0 ++ leBytes 1 0⟩)
        else if (s.station i).trace.length ≤ b.toNat then s.refuse .outOfRange
        else (s, ⟨.done, leBytes 1 (s.station i).trace.length ++ leBytes 1 c.toNat
          ++ traceEntries (s.station i).trace b.toNat c.toNat⟩) := by
  unfold handleReadTrace
  dsimp only
  rw [ha, numbered_val]
  exact if_neg (Nat.not_lt.mpr hc)

theorem leBytes_byte (c : Byte) : leBytes 1 c.toNat = [c] := by
  rw [leBytes, leBytes, BitVec.ofNat_toNat, BitVec.setWidth_eq]

/-- R58: READ_TRACE, refused, of an empty ring, and of a ring with entries. -/
theorem readTrace_answers (ht : s.TurnOf ⟨0x0F#8, tag, [a, b, c]⟩) :
    (3 < a.toNat ∨ 32 < c.toNat →
      exec (.readTrace tag [a, b, c]) s = .next (s.takeFromQueue.sends (replyFrame 0x0F#8 tag .outOfRange [])))
    ∧ ∀ i : StationNo, a.toNat = i.val → c.toNat ≤ 32 →
      ((s.station i).trace = [] →
        exec (.readTrace tag [a, b, c]) s
          = .next (s.takeFromQueue.sends (replyFrame 0x0F#8 tag .done [0x00#8, 0x00#8])))
      ∧ ((s.station i).trace ≠ [] → (s.station i).trace.length ≤ b.toNat →
        exec (.readTrace tag [a, b, c]) s = .next (s.takeFromQueue.sends (replyFrame 0x0F#8 tag .outOfRange [])))
      ∧ (b.toNat < (s.station i).trace.length →
        ∃ entries : List (List Byte),
          exec (.readTrace tag [a, b, c]) s
            = .next (s.takeFromQueue.sends (replyFrame 0x0F#8 tag .done
                (leBytes 1 (s.station i).trace.length ++ [c] ++ entries.flatten)))
          ∧ entries.length = c.toNat
          ∧ ∀ k, k < c.toNat → ∃ x,
              (s.station i).trace[(b.toNat + k) % (s.station i).trace.length]? = some x
                ∧ entries[k]? = some (traceBytes ((b.toNat + k) % (s.station i).trace.length) x)) := by
  have answers {t : State} {reply : Reply}
      (h : handleReadTrace (a.toNat, b.toNat, c.toNat) s.takeFromQueue = (t, reply)) :
      exec (.readTrace tag [a, b, c]) s = .next (t.sends (replyFrame 0x0F#8 tag reply.status reply.body)) :=
    exec_reading (h := handleReadTrace) rfl rfl ht readReadTrace_bytes h
  refine ⟨fun h => answers (handleReadTrace_outOfRange h), fun i ha hc => ?_⟩
  have hreads := handleReadTrace_station (s := s.takeFromQueue) (b := b) ha hc
  have hstation : s.takeFromQueue.station i = s.station i := rfl
  rw [hstation] at hreads
  refine ⟨fun hempty => ?_, fun hfull hstart => ?_, fun hstart => ?_⟩
  · rw [if_pos (List.length_eq_zero_iff.mpr hempty)] at hreads
    exact answers hreads
  · rw [if_neg (mt List.length_eq_zero_iff.mp hfull), if_pos hstart] at hreads
    exact answers hreads
  · have hpos : 0 < (s.station i).trace.length := Nat.zero_lt_of_lt hstart
    rw [if_neg (Nat.ne_of_gt hpos), if_neg (Nat.not_le.mpr hstart), traceEntries_eq, leBytes_byte] at hreads
    exact ⟨_, answers hreads, by simp [entriesFrom], fun k hk => entriesFrom_getElem? hpos hk⟩

end trace

/-! ### The replies' fields -/

section replies

theorem receiver_eq (f : Family) (s : State) :
    let body := s.receiverBytes f
    let r := s.receiver f
    let c := r.standing.cylinder
    let stations (p : Station → Bool) : Nat :=
      (allStations.filter fun i => decide ((s.station i).family = some f) && p (s.station i)).length
    body.length = 82 ∧ field body 0 1 = r.standing.name.code ∧ field body 1 4 = r.fillLimit % 4294967296
    ∧ field body 5 1 = (s.latestReading (roleReceiverWeight f)).condition.code ∧ hasOptionalSigned body 6 4 r.weight
    ∧ hasOptionalSigned body 11 8 (c.bind fun x => r.weight.map fun w => w - (x.tare : Int))
    ∧ field body 20 1 = (if c.isSome then 1 else 0) ∧ field body 21 4 = (c.map (·.serial)).getD 0 % 4294967296
    ∧ field body 25 4 = (c.map (·.tare)).getD 0 % 4294967296
    ∧ field body 29 8 = (c.map (·.delivered)).getD 0 % 2 ^ 64
    ∧ field body 37 8 = (c.map (·.delivered)).getD 0 / 1000000 % 2 ^ 64
    ∧ field body 45 1 = (if r.lastClosed.isSome then 1 else 0)
    ∧ (∀ x, r.lastClosed = some x → field body 46 4 = x.serial % 4294967296 ∧ field body 50 4 = x.tare % 4294967296
        ∧ hasOptionalSigned body 54 8 x.netWeighed ∧ field body 63 8 = x.delivered % 2 ^ 64
        ∧ hasOptionalSigned body 71 8 x.difference)
    ∧ (r.lastClosed = none → ∀ k, 46 ≤ k → k ≤ 79 → field body k 1 = 0)
    ∧ field body 80 1 = stations (fun st => st.state = .evacuating)
    ∧ field body 81 1 = stations (fun st => st.state = .suspended && st.causes.receiver) := by
  intro body r c stations
  obtain ⟨hstate, hlimit, hcondition, hweight, hnet, hevacuating, hheld⟩ := receiver_fields s f
  obtain ⟨hpresent, hserial, htare, hdelivered, hmilligrams⟩ := cylinderBytes_fields c
  have hcylinder (o w : Nat) (h : o + w ≤ 25 := by decide) := receiver_cylinder s f h
  have hclosed (o w : Nat) (h : o + w ≤ 35 := by decide) := receiver_closed s f h
  rw [netWeight_eq] at hnet
  refine ⟨receiverBytes_length s f, hstate, hlimit, hcondition, hweight, hnet, (hcylinder 0 1).trans hpresent,
    (hcylinder 1 4).trans hserial, (hcylinder 5 4).trans htare, (hcylinder 9 8).trans hdelivered, (hcylinder 17 8).trans hmilligrams,
    (hclosed 0 1).trans ?_, fun x hx => ?_, fun hnone k hlow hhigh => ?_, hevacuating, hheld⟩
  · cases (s.receiver f).lastClosed <;> rfl
  · have hx' : (s.receiver f).lastClosed = some x := hx
    rw [hx'] at hclosed
    obtain ⟨hserial, htare, hweighed, hdelivered, hdifference⟩ := closedBytes_fields x
    exact ⟨(hclosed 1 4).trans hserial, (hclosed 5 4).trans htare,
      ⟨(hclosed 9 1).trans hweighed.1, (congrArg Nat.cast (hclosed 10 8)).trans hweighed.2⟩, (hclosed 18 8).trans hdelivered,
      ⟨(hclosed 26 1).trans hdifference.1, (congrArg Nat.cast (hclosed 27 8)).trans hdifference.2⟩⟩
  · have hnone' : (s.receiver f).lastClosed = none := hnone
    have hk := hclosed (k - 45) 1 (by omega)
    rw [show 45 + (k - 45) = k by omega, hnone'] at hk
    exact hk.trans (field_zeros 35 (k - 45) 1)

theorem chamber_eq (c : Chamber) :
    let body := c.queryBytes
    body.length = 99 ∧ field body 0 1 = c.standing.code ∧ hasOptional body 1 1 (c.standing.phase.map Phase.code)
    ∧ field body 3 1 = (if c.stopPending then 1 else 0) ∧ hasSettings body 4 c.inForce
    ∧ field body 18 4 = (c.inForce.x + 1) * c.inForce.b % 4294967296 ∧ hasSettings body 22 c.staged
    ∧ field body 36 1 = (if c.stagingPending then 1 else 0)
    ∧ field body 37 1 = (if c.staged.mode ≠ c.inForce.mode ∨ c.staged.gas ≠ c.inForce.gas then 1 else 0)
    ∧ field body 38 2 = c.counter % 65536 ∧ field body 40 2 = c.baseline % 65536
    ∧ field body 42 1 = (if c.baselineHigh then 1 else 0) ∧ field body 43 1 = c.limits.inertPermit % 256
    ∧ field body 44 2 = c.limits.inertTimeout % 65536 ∧ field body 46 2 = c.limits.ventLevel % 65536
    ∧ field body 48 2 = c.limits.ventTimeout % 65536
    ∧ ((∀ x, c.standing ≠ .charging x) → ∀ k, 50 ≤ k → k ≤ 98 → field body k 1 = 0)
    ∧ ∀ x, c.standing = .charging x →
      field body 50 1 = 1 ∧ field body 51 2 = x.number % 65536 ∧ field body 53 1 = (if x.flags.void then 1 else 0)
      ∧ field body 54 1 = x.units.length % 256
      ∧ (∀ k, k < 8 → field body (55 + 4 * k) 4 = (x.units[k]?).getD 0 % 4294967296)
      ∧ field body 87 4 = x.index % 4294967296
      ∧ hasOptional body 91 2 (if x.phase = .inertWait ∨ x.phase = .ventWait then some (x.waitElapsed / 10000) else none)
      ∧ field body 94 4 = min (x.mass / 1000000) 4294967295 ∧ field body 98 1 = x.flags.mask := by
  intro body
  obtain ⟨hstate, hphase, hstop, hforce, hperiod, hstaged, hpending, htransition, hrest⟩ := chamber_fields c
  have hcharge (o w : Nat) : field body (50 + o) w = field (chargeBytes c.standing) o w := chamber_charge c
  obtain ⟨hcounter, hbaseline, hhigh, hpermit, hinert, hlevel, hvent⟩ := hrest
  refine ⟨chamber_length c, hstate, hphase, hstop, hforce, hperiod, hstaged, hpending, htransition.trans (transition_indicator c),
    hcounter, hbaseline, hhigh, hpermit, hinert, hlevel, hvent, fun hnone k hlow _ => ?_, fun x hx => ?_⟩
  · have hk := hcharge (k - 50) 1
    rw [show 50 + (k - 50) = k by omega, chargeBytes_none hnone] at hk
    exact hk.trans (field_zeros ..)
  · rw [hx] at hcharge
    obtain ⟨hpresent, hnumber, hvoid, hcount, hindex, hwait, hmass, hflags⟩ := charge_fields x
    rw [waitSeconds_eq] at hwait
    refine ⟨(hcharge 0 1).trans hpresent, (hcharge 1 2).trans hnumber, (hcharge 3 1).trans hvoid, (hcharge 4 1).trans hcount,
      fun k hk => ?_, (hcharge 37 4).trans hindex, ⟨(hcharge 41 1).trans hwait.1, (hcharge 42 2).trans hwait.2⟩,
      (hcharge 44 4).trans hmass, (hcharge 48 1).trans hflags⟩
    have hunits := (hcharge (5 + 4 * k) 4).trans (charge_units x hk)
    rwa [← Nat.add_assoc] at hunits

theorem protection_eq (s : State) :
    let body := s.protectionBytes
    let lfl : Option Nat := (s.gases[s.chamber.inForce.gas]).bind (·.lfl)
    field body 0 1 = s.link.mode.code ∧ field body 1 1 = s.protection.causes.mask
    ∧ field body 2 1 = (if s.link.mode = .offline ∧ s.protection.causes.requestedTrip = true then 1 else 0)
    ∧ field body 3 1 = s.protection.limits.loadTripPercent % 256 ∧ field body 4 1 = s.protection.limits.oxygenTrip % 256
    ∧ field body 5 1 = s.protection.limits.clearPercent % 256 ∧ field body 6 2 = s.protection.limits.clearHold % 65536
    ∧ hasOptional body 8 2 (lfl.map fun n => n * s.protection.limits.loadTripPercent / 100)
    ∧ hasOptional body 11 2 (lfl.map fun n => n * s.protection.limits.clearPercent / 100)
    ∧ hasOptional body 14 4 (s.protection.clearHold.map fun m => min ((s.now - m) / 1000) 4294967295)
    ∧ field body 19 1 = (if s.link.mode = .tripped
        ∧ (∃ m ∈ s.protection.clearHold, s.protection.limits.clearHold * 10000 ≤ s.now - m) then 1 else 0) := by
  intro body lfl
  obtain ⟨hmode, hcauses, hrecorded, hpercent, hoxygen, hclear, hhold, htrip, hlevel, htenths, hready⟩ := protection_fields s
  refine ⟨hmode, hcauses, hrecorded.trans (ite_congr (propext ?_) (fun _ => rfl) fun _ => rfl), hpercent, hoxygen, hclear, hhold, htrip, hlevel, htenths,
    hready.trans (ite_congr (propext ?_) (fun _ => rfl) fun _ => rfl)⟩
  · rw [Bool.and_eq_true, decide_eq_true_iff]
  · rw [Bool.and_eq_true, decide_eq_true_iff, holdReached_iff]

theorem image_eq (s : State) :
    let body := s.imageBytes
    let c := s.scanner
    hasOptional body 0 2 (c.published.map (·.sequence)) ∧ field body 3 4 = (c.published.map (·.elapsed)).getD 0 % 4294967296
    ∧ (∀ i : CellNo,
        let cell := ((c.published.map fun x => x.cells[i]).getD ⟨0, .unsettled⟩)
        hasSigned body (7 + 5 * i.val) 4 cell.value ∧ field body (11 + 5 * i.val) 1 = cell.mark.code)
    ∧ field body 247 2 = c.settlingRemaining % 65536
    ∧ (∀ n : SlotNo,
        let x := c.slots[n]
        let place := 249 + 10 * n.val
        field body place 1 = n.val ∧ field body (place + 1) 1 = (if x.enabled then 1 else 0)
        ∧ field body (place + 2) 1 = x.address % 256 ∧ field body (place + 3) 1 = x.firstValue % 256
        ∧ field body (place + 4) 1 = x.count % 256 ∧ field body (place + 5) 1 = x.misses % 256
        ∧ field body (place + 6) 1 = x.status.code ∧ field body (place + 7) 1 = (if x.allocation.isSome then 1 else 0)
        ∧ field body (place + 8) 1 = (x.allocation.map (·.first)).getD 0 % 256
        ∧ field body (place + 9) 1 = (x.allocation.map (·.granted)).getD 0 % 256)
    ∧ (∀ r : RoleNo,
        hasOptional body (369 + 7 * r.val) 1 ((c.roles[r]).binding.map (·.val))
        ∧ field body (371 + 7 * r.val) 1 = (s.latestReading r).condition.code
        ∧ hasSigned body (372 + 7 * r.val) 4 (s.latestReading r).value)
    ∧ field body 488 4 = c.divisor % 4294967296 ∧ field body 492 1 = c.holdLimit % 256
    ∧ field body 493 2 = c.settlingCount % 65536 := by
  intro body c
  obtain ⟨hsequence, helapsed, hsettling, hdivisor, hhold, hcount⟩ := image_fields s
  refine ⟨hsequence, helapsed, fun i => ?_, hsettling, fun n => ?_, fun r => ?_, hdivisor, hhold, hcount⟩
  · intro cell
    obtain ⟨hvalue, hmark⟩ := cellBytes_fields cell
    have hplace (o w : Nat) (h : o + w ≤ 5 := by decide) : field body (7 + 5 * i.val + o) w = field (cellBytes cell) o w :=
      image_cell s i h
    refine ⟨(congrArg Nat.cast (hplace 0 4)).trans hvalue, ?_⟩
    rw [show 11 + 5 * i.val = 7 + 5 * i.val + 4 by omega]
    exact (hplace 4 1).trans hmark
  · intro x place
    have hplace (o w : Nat) (h : o + w ≤ 10 := by decide) : field body (place + o) w = field (slotBytes n x) o w := image_slot s n h
    obtain ⟨hnumber, henabled, haddress, hfirst, hcount, hmisses, hstatus, hgiven, hstart, hgranted⟩ := slotBytes_fields n x
    exact ⟨(hplace 0 1).trans hnumber, (hplace 1 1).trans henabled, (hplace 2 1).trans haddress, (hplace 3 1).trans hfirst,
      (hplace 4 1).trans hcount, (hplace 5 1).trans hmisses, (hplace 6 1).trans hstatus, (hplace 7 1).trans hgiven,
      (hplace 8 1).trans hstart, (hplace 9 1).trans hgranted⟩
  · obtain ⟨hbinding, hcondition, hvalue⟩ := roleBytes_fields s r
    have hplace (o w : Nat) (h : o + w ≤ 7 := by decide) : field body (369 + 7 * r.val + o) w = field (s.roleBytes r) o w :=
      image_role s r h
    refine ⟨⟨(hplace 0 1).trans hbinding.1, (hplace 1 1).trans hbinding.2⟩, ?_, ?_⟩
    · rw [show 371 + 7 * r.val = 369 + 7 * r.val + 2 by omega]
      exact (hplace 2 1).trans hcondition
    · have hsigned := (congrArg Nat.cast (hplace 3 4)).trans hvalue
      rwa [show 369 + 7 * r.val + 3 = 372 + 7 * r.val by omega] at hsigned

end replies

/-- Settles O27: the queries' answers, READ_TRACE, and the fields of each record and reply. -/
theorem queriesAnswerAndChangeNothing : Obligations.QueriesAnswerAndChangeNothing := by
  refine ⟨fun tag s => ⟨fun n hn ht => exec_queryUnit hn ht, fun f ht => exec_queryReceiver f ht, fun n hn ht => exec_readCharge hn ht,
      fun ht => ?_, fun ht => ?_, fun ht => ?_, fun ht => ?_, fun ht => ?_, shift_length s.shift, protection_length s, image_length s⟩,
    fun tag a b c s ht => readTrace_answers ht, unitRecord_eq, chargeRecord_eq, receiver_eq, chamber_eq, protection_eq, image_eq,
    fun a => ?_⟩
  · exact exec_reading (h := fun _ => handleQueryChamber) (a := ()) rfl rfl ht rfl rfl
  · exact exec_reading (h := fun _ => handleQueryArithmetic) (a := ()) rfl rfl ht rfl rfl
  · exact exec_reading (h := fun _ => handleReadShift) (a := ()) rfl rfl ht rfl rfl
  · exact exec_reading (h := fun _ => handleQueryProtection) (a := ()) rfl rfl ht rfl rfl
  · exact exec_reading (h := fun _ => handleQueryImage) (a := ()) rfl rfl ht rfl rfl
  · obtain ⟨hnumber, habandoned, htrips, hcharges, hvoid⟩ := shift_fields a
    obtain ⟨hverdicts, htotals⟩ := shift_totals a
    refine ⟨hnumber, fun v => ?_, htotals, habandoned, htrips, hcharges, hvoid⟩
    rw [← verdict_place]
    exact hverdicts v.place

end Sys2Proof.Proofs.Queries
